-- ==== Sys2Proof/Word.lean ====
section
/-! DEFINITION. The value types of the block (00_scope.md rules R9 and R11). Bit 0 is the least significant bit of
every word. A bit that the spec treats as one level or one flag is a `Bool` (true = 1, rule R11); `accum`, `steps`
and every delta are mathematical integers (`Int`, decision D4 of the spec); a time is a natural number (`Nat`, D5). -/

namespace Sys2Proof

/-- One `E8` event word, also one `CFG0` word: 8 bits (rules R75 and R78). -/
abbrev Byte := BitVec 8

/-- A QuadratureState, format `Q2`: bit 1 the clock level, bit 0 the data level (rule R72). -/
abbrev QState := BitVec 2

/-- A transition-table index, format `I4` (rule R73), also a sample nibble, format `S4` (rule R71). -/
abbrev Nibble := BitVec 4

end Sys2Proof
end

