-- ==== Sys2Proof/Config.lean ====
section
/-! DEFINITION. What an implementation fixes: the configuration record, the parameters of one encoder arrangement
and its host, and the model's one free value (00_scope.md rules R6 to R8, 10_state.md rule R33). -/

namespace Sys2Proof

/-- The configuration record `cfg` (rule R33). `ppr` and `dir` are integers, so that an illegal value can be
presented and answered `BAD_CFG` (rule R80 c). -/
structure Cfg where
  /-- `PPR`, quadrature transitions per detent; legal 1, 2, 4. -/
  ppr : Int
  /-- `ACTIVE_LEVEL`, the button level that means pressed. -/
  activeLevel : Bool
  /-- `DIR`, the sign applied to every table entry; legal +1, −1 (rule R8). -/
  dir : Int
  /-- `POLL_INTERVAL`; legal > 0. -/
  pollInterval : Nat
  /-- `DEBOUNCE_WINDOW`; any value is legal. -/
  debounceWindow : Nat
  /-- `ERR_LIMIT`; legal >= 1 (rule R7). -/
  errLimit : Nat
  deriving DecidableEq, Repr

/-- The configuration as the host presents it to `START`: the record itself, or the packed word `CFG0` with the
three plain numbers beside it (rule R78). -/
inductive CfgIn where
  /-- The record of rule R33. -/
  | record (c : Cfg)
  /-- The packed small fields `CFG0`, with `POLL_INTERVAL`, `DEBOUNCE_WINDOW` and `ERR_LIMIT` beside it. -/
  | packed (cfg0 : Byte) (pollInterval debounceWindow errLimit : Nat)
  deriving DecidableEq, Repr

/-- The parameters that are neither state nor part of `cfg`: constants of one arrangement of block and host
(rules R6 to R8 and R38). -/
structure Params where
  /-- `CLK_ID`, opaque; no rule reads it. -/
  clkId : Nat
  /-- `DT_ID`, opaque; no rule reads it. -/
  dtId : Nat
  /-- `SW_ID`, opaque; no rule reads it. -/
  swId : Nat
  /-- `STEPS_W`: `none` is the default, unbounded (rule R8). -/
  stepsW : Option Nat
  /-- `TIME_W`: `none` is the default, unbounded (rule R8). -/
  timeW : Option Nat
  /-- `JOIN_TIMEOUT`; no rule's result depends on it (rules R7 and R173). -/
  joinTimeout : Nat
  /-- `N_SAMPLES`, the number of pairs in one `BURST` (rule R83). -/
  nSamples : Nat
  /-- `INTER_SAMPLE_DELAY`, the wait between two pairs of one `BURST` (rule R83). -/
  interSampleDelay : Nat
  deriving DecidableEq, Repr

/-- `SAFE_LEVEL` = 1, the level substituted for a failed line read (rule R8, decision D8). -/
def Config.safeLevel : Bool := true

/-- FREE VALUE (log entry 10). The `n`-th sample nibble of the environment at a tick for which the event stream
gives none: the environment presents any sample at any tick (rule R38, 93_implementation_defined.md U9). It has no
body, so nothing can be proved of it. -/
opaque Config.tickSample : Nat → Nibble

/-- The configuration that stands at the configuration port at power-on: DESIGN CHOICE (log entry 2), the values
of the spec's worked examples (95_test_vectors.md, Conventions, S1 and S2). -/
def Config.resetCfg : Cfg :=
  { ppr := 4, activeLevel := false, dir := 1, pollInterval := 1, debounceWindow := 5, errLimit := 3 }

/-- The parameters at power-on: the defaults of rules R6 and R8, and DESIGN CHOICE values for the four parameters
that have none and that no rule reads (log entry 3). -/
def Config.resetParams : Params :=
  { clkId := 0, dtId := 1, swId := 2, stepsW := none, timeW := none, joinTimeout := 1, nSamples := 5,
    interSampleDelay := 2 }

end Sys2Proof
end

