-- ==== Sys2Proof/Syntax.lean ====
section
/-! DEFINITION. The syntax: one constructor of `Instr` per row of spec/opcode_table.json, the three formats in which
a row's bits are given (`E8`, `I4`, `PSEUDO`), and the entries of the event stream a run executes. -/

namespace Sys2Proof

/-- The operations of spec/opcode_table.json: the six events of rule R76, the sixteen rows of the transition table
(rule R73 names them and says that an index selects a row the way an opcode selects an instruction), and the
pseudo-operation of rule R83. -/
inductive Instr where
  /-- `POLL`, a sampler tick with its sample: read-error flag, clock, data, button (rule R100). -/
  | poll (e c d s : Bool)
  /-- `START` with its initial sample (rule R170). -/
  | start (e c d s : Bool)
  /-- `RDSTEPS` (rule R171). -/
  | rdsteps
  /-- `RDPRESS` (rule R172). -/
  | rdpress
  /-- `CLOSE` (rule R173). -/
  | close
  /-- `RDSTAT` (rule R174). -/
  | rdstat
  /-- Table entry 0 (rule R122). -/
  | qd00_00
  /-- Table entry 1 (rule R123). -/
  | qd00_01
  /-- Table entry 2 (rule R124). -/
  | qd00_10
  /-- Table entry 3 (rule R125). -/
  | qd00_11
  /-- Table entry 4 (rule R126). -/
  | qd01_00
  /-- Table entry 5 (rule R127). -/
  | qd01_01
  /-- Table entry 6 (rule R128). -/
  | qd01_10
  /-- Table entry 7 (rule R129). -/
  | qd01_11
  /-- Table entry 8 (rule R130). -/
  | qd10_00
  /-- Table entry 9 (rule R131). -/
  | qd10_01
  /-- Table entry 10 (rule R132). -/
  | qd10_10
  /-- Table entry 11 (rule R133). -/
  | qd10_11
  /-- Table entry 12 (rule R134). -/
  | qd11_00
  /-- Table entry 13 (rule R135). -/
  | qd11_01
  /-- Table entry 14 (rule R136). -/
  | qd11_10
  /-- Table entry 15 (rule R137). -/
  | qd11_11
  /-- `BURST`, with the operands `N_SAMPLES` and `INTER_SAMPLE_DELAY` of the host's parameters (rule R175). -/
  | burst
  deriving DecidableEq, Repr

/-- The bits of one row in its own format: an `E8` event word, an `I4` table index, or the two-word pattern that the
opcode table shows for the pseudo-operation. The three are different spaces (rules R50 and R70): the same number
names one thing in each. -/
inductive Code where
  /-- An `E8` event word (rule R75). -/
  | e8 (w : Byte)
  /-- An `I4` table index (rule R73). -/
  | i4 (i : Nibble)
  /-- The pattern of one repetition of `BURST`, its first word in bits 15:8 (rule R73, last sentence). -/
  | pseudo (w : BitVec 16)
  deriving DecidableEq, Repr

/-- Why a code is no operation: the reserved encodings of rule R80 (a), by name. -/
inductive Reserved where
  /-- `op` is 6 or 7. -/
  | opcode
  /-- Bit 4, `z`, is 1. -/
  | zBit
  /-- The nibble of an operation without operands is not 0. -/
  | nibble
  /-- A 16-bit pattern other than the one the opcode table gives `BURST`. -/
  | pattern
  deriving DecidableEq, Repr

/-- One entry of the event stream: what reaches the block, or its host, next. -/
inductive Input where
  /-- An event word, a tick or a host command (rule R75). -/
  | event (w : Byte)
  /-- The host calls the burst reader (rule R83). -/
  | burst
  /-- The host sets what stands at the configuration port (70_reset_and_hazards.md rule R222, step 1). -/
  | configure (c : CfgIn)
  deriving DecidableEq, Repr

end Sys2Proof
end

