-- ==== Sys2Proof/WellFormed.lean ====
section
/-! DEFINITION. Well-formedness. Every operand of every operation is one bit, so every `Instr` is well formed: the
encoding formats have no operand value to exclude (rules R71 and R79, "no immediate exists"). What can be ill
formed is a set of parameters (rules R7, R8 and the open-parameter table of 92_eei_decisions.md). The legality of a
configuration is no syntax check: `START` answers it at run time (Machine/Operands.lean). -/

namespace Sys2Proof

/-- An operation is well formed: each operand is a bit, so there is nothing to refuse. -/
def Instr.wellFormed : Instr → Bool
  | .poll _ _ _ _ => true
  | .start _ _ _ _ => true
  | .rdsteps => true
  | .rdpress => true
  | .close => true
  | .rdstat => true
  | .qd00_00 => true
  | .qd00_01 => true
  | .qd00_10 => true
  | .qd00_11 => true
  | .qd01_00 => true
  | .qd01_01 => true
  | .qd01_10 => true
  | .qd01_11 => true
  | .qd10_00 => true
  | .qd10_01 => true
  | .qd10_10 => true
  | .qd10_11 => true
  | .qd11_00 => true
  | .qd11_01 => true
  | .qd11_10 => true
  | .qd11_11 => true
  | .burst => true

/-- `STEPS_W` is unbounded or an integer >= 2 (92_eei_decisions.md, open parameters). -/
def stepsWidthOk : Option Nat → Bool
  | none => true
  | some w => decide (2 ≤ w)

/-- `JOIN_TIMEOUT` > 0 (rule R7). -/
def joinTimeoutOk (t : Nat) : Bool := decide (0 < t)

/-- The parameters are legal. -/
def Params.wellFormed (p : Params) : Bool := stepsWidthOk p.stepsW && joinTimeoutOk p.joinTimeout

end Sys2Proof
end

