-- ==== Sys2Proof/Decode.lean ====
section
/-! DEFINITION. The decoder, total on every code, and the encoder, both from the tables of 30_encoding.md (rules R71,
R73, R75, R76 and R80). -/

namespace Sys2Proof

/-- The operation an `E8` word encodes, or the name of the reserved encoding it is (rules R75, R76, R80 a). -/
def decodeE8 (w : Byte) : Except Reserved Instr :=
  let op := w.extractLsb' 5 3
  if op = 6#3 ∨ op = 7#3 then .error .opcode
  else if w.getLsbD 4 then .error .zBit
  else if op = 0#3 then .ok (.poll (w.getLsbD 3) (w.getLsbD 2) (w.getLsbD 1) (w.getLsbD 0))
  else if op = 1#3 then .ok (.start (w.getLsbD 3) (w.getLsbD 2) (w.getLsbD 1) (w.getLsbD 0))
  else if w.extractLsb' 0 4 ≠ 0#4 then .error .nibble
  else if op = 2#3 then .ok .rdsteps
  else if op = 3#3 then .ok .rdpress
  else if op = 4#3 then .ok .close
  else .ok .rdstat

/-- The table row an index selects: bits 3:2 the previous state, bits 1:0 the new one (rule R73). Total: each of the
sixteen indices selects a row (rule R53). -/
def decodeI4 (i : Nibble) : Instr :=
  match i with
  | 0b0000#4 => .qd00_00
  | 0b0001#4 => .qd00_01
  | 0b0010#4 => .qd00_10
  | 0b0011#4 => .qd00_11
  | 0b0100#4 => .qd01_00
  | 0b0101#4 => .qd01_01
  | 0b0110#4 => .qd01_10
  | 0b0111#4 => .qd01_11
  | 0b1000#4 => .qd10_00
  | 0b1001#4 => .qd10_01
  | 0b1010#4 => .qd10_10
  | 0b1011#4 => .qd10_11
  | 0b1100#4 => .qd11_00
  | 0b1101#4 => .qd11_01
  | 0b1110#4 => .qd11_10
  | _ => .qd11_11

/-- The operation a code encodes, in the code's own format. -/
def decode : Code → Except Reserved Instr
  | .e8 w => decodeE8 w
  | .i4 i => .ok (decodeI4 i)
  | .pseudo w => if w = 0x4060#16 then .ok .burst else .error .pattern

/-- An `E8` word from its fields `op`, `z` = 0 and the sample nibble `e c d s` (rules R71 and R75). -/
def eventWord (op : BitVec 3) (e c d s : Bool) : Byte :=
  op ++ 0#1 ++ BitVec.ofBool e ++ BitVec.ofBool c ++ BitVec.ofBool d ++ BitVec.ofBool s

/-- The code of an operation (rules R73, R75, R76 and the pattern of `BURST` in the opcode table). -/
def encode : Instr → Code
  | .poll e c d s => .e8 (eventWord 0 e c d s)
  | .start e c d s => .e8 (eventWord 1 e c d s)
  | .rdsteps => .e8 (eventWord 2 false false false false)
  | .rdpress => .e8 (eventWord 3 false false false false)
  | .close => .e8 (eventWord 4 false false false false)
  | .rdstat => .e8 (eventWord 5 false false false false)
  | .qd00_00 => .i4 (0b00#2 ++ 0b00#2)
  | .qd00_01 => .i4 (0b00#2 ++ 0b01#2)
  | .qd00_10 => .i4 (0b00#2 ++ 0b10#2)
  | .qd00_11 => .i4 (0b00#2 ++ 0b11#2)
  | .qd01_00 => .i4 (0b01#2 ++ 0b00#2)
  | .qd01_01 => .i4 (0b01#2 ++ 0b01#2)
  | .qd01_10 => .i4 (0b01#2 ++ 0b10#2)
  | .qd01_11 => .i4 (0b01#2 ++ 0b11#2)
  | .qd10_00 => .i4 (0b10#2 ++ 0b00#2)
  | .qd10_01 => .i4 (0b10#2 ++ 0b01#2)
  | .qd10_10 => .i4 (0b10#2 ++ 0b10#2)
  | .qd10_11 => .i4 (0b10#2 ++ 0b11#2)
  | .qd11_00 => .i4 (0b11#2 ++ 0b00#2)
  | .qd11_01 => .i4 (0b11#2 ++ 0b01#2)
  | .qd11_10 => .i4 (0b11#2 ++ 0b10#2)
  | .qd11_11 => .i4 (0b11#2 ++ 0b11#2)
  | .burst => .pseudo (eventWord 2 false false false false ++ eventWord 3 false false false false)

/-- The code meant by the number `w` of a row of the opcode table to which the table gives `nbits` bits: 4 bits are
an index, the 16-bit pattern of `BURST` is that pattern, and everything else is an event word, which is one byte
(log entry 7). -/
def tableCode (nbits w : Nat) : Code :=
  if nbits = 4 then .i4 (BitVec.ofNat 4 w)
  else if nbits = 16 ∧ w = 0x4060 then .pseudo 0x4060#16
  else .e8 (BitVec.ofNat 8 w)

/-- The operation the decoder reads from a row's number; `none` where it refuses. -/
def decodeTableWord (nbits w : Nat) : Option Instr :=
  (decode (tableCode nbits w)).toOption

/-- The operation an entry of the event stream asks for; `none` for an entry that sets the configuration port. -/
def Input.code : Input → Option Code
  | .event w => some (.e8 w)
  | .burst => some (encode .burst)
  | .configure _ => none

end Sys2Proof
end

