-- ==== Sys2Proof/Machine/State.lean ====
section
/-! DEFINITION. The state of one block, its host's responses, the faults and refusals, and the state at power-on
(10_state.md; 70_reset_and_hazards.md rule R220). -/

namespace Sys2Proof.Machine

/-- `mode`, the run state (rule R30). -/
inductive Mode where
  /-- Powered, never started. -/
  | idle
  /-- The sampler polls. -/
  | running
  /-- Soft-disabled. -/
  | disabled
  /-- Closed. -/
  | stopped
  deriving DecidableEq, Repr

/-- The status of a response (rule R77). -/
inductive Status where
  | ok
  | notReady
  | busy
  | badCmd
  | badCfg
  deriving DecidableEq, Repr

/-- The value a read returns with status `OK` (rule R77). -/
inductive RspValue where
  /-- `RDSTEPS`: the drained detents. -/
  | steps (n : Int)
  /-- `RDPRESS`: the drained latch. -/
  | press (b : Bool)
  /-- `RDSTAT`: bits 1:0 `mode`, bit 2 `stop_flag`. -/
  | stat (w : BitVec 3)
  deriving DecidableEq, Repr

/-- Format `RSP`, one response (rule R77). -/
structure Rsp where
  status : Status
  value : Option RspValue
  deriving DecidableEq, Repr

/-- Why a step stops the machine. -/
inductive Fault where
  /-- `StepsOverflow`: raised by the sampler's `AtomicAdd` on `steps` (`POLL`, and a tick inside `BURST`) when
  `STEPS_W` is finite and the sum leaves its range (rule R194). Safe: the spec names this fault, and with the
  default unbounded width it cannot occur. -/
  | stepsOverflow
  /-- Raised by a tick when `TIME_W` is finite and the new time does not fit it (93_implementation_defined.md U7).
  Safe: the spec names this treatment, and with the default unbounded width it cannot occur. -/
  | timeWrap
  deriving DecidableEq, Repr

/-- Why a step has no meaning. -/
inductive Refusal where
  /-- An operation without a meaning in `exec`, by its mnemonic. No arm answers it: every operation has its
  meaning (rule R195: no refusal is needed). Safe: a refusal proves nothing about the hardware. -/
  | notModelled (mnemonic : String)
  deriving DecidableEq, Repr

/-- One block with its host and its environment: the thirteen elements of rule R20, then the inputs and constants
of rules R6 to R8, R33 and R38, then the model's own bookkeeping (INVENTORY.md, State). -/
structure State where
  /-- `accum` (rule R21). -/
  accum : Int
  /-- `steps`, shared cell (rule R22). -/
  steps : Int
  /-- `prev_state` (rule R23). -/
  prevState : QState
  /-- `press_latch`, shared cell (rule R24). -/
  pressLatch : Bool
  /-- `last_button_level` (rule R25). -/
  lastButtonLevel : Bool
  /-- `last_button_change_time` (rule R26). -/
  lastButtonChangeTime : Nat
  /-- `press_blocked` (rule R27). -/
  pressBlocked : Bool
  /-- `err_count` (rule R28). -/
  errCount : Nat
  /-- `stop_flag` (rule R29). -/
  stopFlag : Bool
  /-- `mode` (rule R30). -/
  mode : Mode
  /-- `lines_open` (rule R31). -/
  linesOpen : Bool
  /-- `now` (rule R32). -/
  now : Nat
  /-- `cfg`, latched by `START` (rule R33). -/
  cfg : Cfg
  /-- What stands at the configuration port for the next `START` (rules R33 and R78; log entries 2 and 5). -/
  cfgIn : CfgIn
  /-- The parameters (rules R6 to R8; log entry 3). -/
  params : Params
  /-- The pending entries of the event stream, the next one first (rules R57 and R75; log entry 4). -/
  inputs : List Input
  /-- The environment's remaining choices inside a `BURST` (rules R58 and R83; log entry 9). -/
  turns : List Bool
  /-- How many free samples were drawn (log entry 10). -/
  draws : Nat
  /-- The responses the host has observed, the newest first (rule R233; log entry 16). -/
  observed : List Rsp
  /-- What the last `BURST` returned (rule R175; log entry 8). -/
  burstResult : Option (Int × Bool)
  deriving DecidableEq, Repr

/-- Power-on (rules R37 and R220): `mode` = `IDLE`, `stop_flag` = 0, `lines_open` = 0, `now` = 0. Every other
element of the spec is nonexistent there and holds a value named in log entries 1 to 3. -/
def State.reset : State :=
  { accum := 0, steps := 0, prevState := 0, pressLatch := false, lastButtonLevel := false,
    lastButtonChangeTime := 0, pressBlocked := false, errCount := 0, stopFlag := false, mode := .idle,
    linesOpen := false, now := 0, cfg := Config.resetCfg, cfgIn := .record Config.resetCfg,
    params := Config.resetParams, inputs := [], turns := [], draws := 0, observed := [], burstResult := none }

end Sys2Proof.Machine
end

