-- ==== Sys2Proof/Machine/Operands.lean ====
section
/-! DEFINITION. Operand assembly and constant tables: the sample of a poll, the 2-bit state, the table index, the
transition table and its packed image, the configuration and its packed word (rules R71 to R74, R78 to R80, R102,
R121 to R137). -/

namespace Sys2Proof.Machine

/-- One snapshot of the three lines (rule R62). -/
structure Levels where
  clk : Bool
  dt : Bool
  sw : Bool
  deriving DecidableEq, Repr

/-- Sub-step `SAMPLE`: a sample whose read failed is replaced by `SAFE_LEVEL` on all three lines (rules R79 step 1
and R102). -/
def sampleLevels (e c d s : Bool) : Levels :=
  if e then { clk := Config.safeLevel, dt := Config.safeLevel, sw := Config.safeLevel }
  else { clk := c, dt := d, sw := s }

/-- `new_state = (c' << 1) | d'` (rule R79 step 2). -/
def packState (c d : Bool) : QState :=
  ((BitVec.ofBool c).setWidth 2 <<< 1) ||| (BitVec.ofBool d).setWidth 2

/-- `idx = (prev_state << 2) | new_state` (rules R51, R73 and R79 step 3). -/
def tableIndex (prev new : QState) : Nibble :=
  (prev.setWidth 4 <<< 2) ||| new.setWidth 4

/-- The previous state of an index: bits 3:2 (rule R73). -/
def indexPrev (i : Nibble) : QState := i.extractLsb' 2 2

/-- The new state of an index: bits 1:0 (rule R73). -/
def indexNew (i : Nibble) : QState := i.extractLsb' 0 2

/-- `TT`, the transition-table ROM, one line per rule R122 to R137 (log entry 12). -/
def tt (i : Nibble) : Int :=
  match i with
  | 0b0000#4 => 0   -- R122
  | 0b0001#4 => -1  -- R123
  | 0b0010#4 => 1   -- R124
  | 0b0011#4 => 0   -- R125
  | 0b0100#4 => 1   -- R126
  | 0b0101#4 => 0   -- R127
  | 0b0110#4 => 0   -- R128
  | 0b0111#4 => -1  -- R129
  | 0b1000#4 => -1  -- R130
  | 0b1001#4 => 0   -- R131
  | 0b1010#4 => 0   -- R132
  | 0b1011#4 => 1   -- R133
  | 0b1100#4 => 0   -- R134
  | 0b1101#4 => 1   -- R135
  | 0b1110#4 => -1  -- R136
  | _ => 0          -- R137

/-- The packed ROM constant of rule R74, entry `i` in bits `2i+1 : 2i`. -/
def romImage : BitVec 32 := 0x3443C11C#32

/-- `sext_2(ROM[2*idx+1 : 2*idx])`, the table read from its `D2` form (rules R74 and R79 step 4). -/
def romDelta (i : Nibble) : Int := (romImage.extractLsb' (2 * i.toNat) 2).toInt

/-- A legal configuration (rules R33, R80 c and the open parameters of 92_eei_decisions.md; `DIR`: log entry 17). -/
def cfgLegal (c : Cfg) : Bool :=
  (c.ppr == 1 || c.ppr == 2 || c.ppr == 4) && (c.dir == 1 || c.dir == -1) && decide (0 < c.pollInterval)
    && decide (1 ≤ c.errLimit)

/-- `PPR` from `PPR_SEL`, bits 1:0 of `CFG0`; 3 is reserved (rule R78). -/
def pprOfSel (sel : BitVec 2) : Option Int :=
  match sel with
  | 0#2 => some 1
  | 1#2 => some 2
  | 2#2 => some 4
  | _ => none

/-- The record that a `CFG0` word and its three numbers describe; `none` for the reserved encodings (rules R78 and
R80 c). -/
def unpackCfg (cfg0 : Byte) (pollInterval debounceWindow errLimit : Nat) : Option Cfg :=
  if cfg0.extractLsb' 4 4 = 0#4 then
    match pprOfSel (cfg0.extractLsb' 0 2) with
    | some p =>
      some { ppr := p, activeLevel := cfg0.getLsbD 2, dir := if cfg0.getLsbD 3 then -1 else 1, pollInterval,
             debounceWindow, errLimit }
    | none => none
  else none

/-- `PPR_SEL` of a legal `PPR` (rule R78). -/
def selOfPpr (p : Int) : BitVec 2 :=
  if p = 1 then 0 else if p = 2 then 1 else 2

/-- The `CFG0` word of a legal configuration (rule R78). -/
def packCfg0 (c : Cfg) : Byte :=
  0#4 ++ BitVec.ofBool (c.dir == -1) ++ BitVec.ofBool c.activeLevel ++ selOfPpr c.ppr

/-- The configuration presented with `START`, if it is legal (rules R33, R78 and R80 c). -/
def presentedCfg (p : CfgIn) : Option Cfg :=
  match p with
  | .record c => if cfgLegal c then some c else none
  | .packed w poll deb err =>
    match unpackCfg w poll deb err with
    | some c => if cfgLegal c then some c else none
    | none => none

/-- The `POLL_INTERVAL` of a presented configuration, legal or not. -/
def presentedInterval (p : CfgIn) : Nat :=
  match p with
  | .record c => c.pollInterval
  | .packed _ poll _ _ => poll

/-- The tick period: that of `cfg`, and before the first `START`, when no `cfg` is latched, that of the presented
configuration (rules R32 and R200; log entry 6). -/
def tickInterval (s : State) : Nat :=
  match s.mode with
  | .idle => presentedInterval s.cfgIn
  | _ => s.cfg.pollInterval

/-- `trunc(a / b)`: the quotient truncated toward zero (rule R12). -/
def trunc (a b : Int) : Int := a.tdiv b

/-- A value fits the `steps` cell: always, or within the two's-complement range of a finite `STEPS_W` (rules R22 and
R194). -/
def stepsFits (w : Option Nat) (v : Int) : Bool :=
  match w with
  | none => true
  | some n => decide (-(2 ^ (n - 1)) ≤ v ∧ v < 2 ^ (n - 1))

/-- A time fits `TIME_W` (rule R8; 93_implementation_defined.md U7). -/
def timeFits (w : Option Nat) (t : Nat) : Bool :=
  match w with
  | none => true
  | some n => decide (t < 2 ^ n)

end Sys2Proof.Machine
end

