-- ==== Sys2Proof/Machine/Flags.lean ====
section
/-! DEFINITION. Flag and condition computations: the codes of mode and status, the status word, the admission of the
drains, the error limit, the release edge and the latch condition (rules R30, R77, R103, R152, R153, R174, R176). -/

namespace Sys2Proof.Machine

/-- The numeric code of a mode (rule R30). -/
def modeCode (m : Mode) : BitVec 2 :=
  match m with
  | .idle => 0
  | .running => 1
  | .disabled => 2
  | .stopped => 3

/-- The numeric code of a status (rule R77). -/
def statusCode (st : Status) : Nat :=
  match st with
  | .ok => 0
  | .notReady => 1
  | .busy => 2
  | .badCmd => 3
  | .badCfg => 4

/-- `(stop_flag << 2) | mode`, the word `RDSTAT` returns (rule R174). -/
def statWord (s : State) : BitVec 3 :=
  ((BitVec.ofBool s.stopFlag).setWidth 3 <<< 2) ||| (modeCode s.mode).setWidth 3

/-- The drains are admitted: `RUNNING` or `DISABLED`, and no stop pending (rules R171, R172, R176). -/
def drainsOpen (s : State) : Bool :=
  (s.mode == .running || s.mode == .disabled) && !s.stopFlag

/-- `START` is turned away with `BUSY` (rule R170). -/
def startBusy (s : State) : Bool :=
  s.mode == .running || s.mode == .disabled

/-- This poll's error makes `err_count >= ERR_LIMIT` (rule R103). -/
def errLimitHit (e : Bool) (s : State) : Bool :=
  e && decide (s.cfg.errLimit ≤ s.errCount + 1)

/-- The sampled button level is a level change (rule R151). -/
def levelChanged (sw : Bool) (s : State) : Bool := sw != s.lastButtonLevel

/-- The sampled button level is a release edge: a change to the inactive level (rule R152). -/
def releaseEdge (sw : Bool) (s : State) : Bool :=
  levelChanged sw s && sw != s.cfg.activeLevel

/-- The latch condition, read after the level was tracked (rule R153). -/
def latchDue (sw : Bool) (s : State) : Bool :=
  sw == s.cfg.activeLevel && !s.pressBlocked
    && decide (s.cfg.debounceWindow ≤ s.now - s.lastButtonChangeTime)

end Sys2Proof.Machine
end

