-- ==== Sys2Proof/Machine/Ops.lean ====
section
/-! DEFINITION. The named operations on the state: time, the two shared cells, responses, the error count and the
soft-disable entry (00_scope.md rule R10; 20_memory.md rule R54; 60_exceptions.md rule R192). -/

namespace Sys2Proof.Machine

/-- An operation that may raise a fault, as an outcome of a step. -/
def outcomeOf (r : Except Fault State) : Host.Outcome State Fault Refusal :=
  match r with
  | .ok s => .next s
  | .error f => .fault f

/-- `now <- now + POLL_INTERVAL` (rules R32 and R100); a fault where a finite `TIME_W` would wrap (U7). -/
def advanceTime (s : State) : Except Fault State :=
  if timeFits s.params.timeW (s.now + tickInterval s) then .ok { s with now := s.now + tickInterval s }
  else .error .timeWrap

/-- `Xchg(steps, v)`: the old value, and the state with `v` in the cell (rules R10 and R54). -/
def xchgSteps (v : Int) (s : State) : Int × State := (s.steps, { s with steps := v })

/-- `Xchg(press_latch, v)`: the old value, and the state with `v` in the cell (rules R10 and R54). -/
def xchgPressLatch (v : Bool) (s : State) : Bool × State := (s.pressLatch, { s with pressLatch := v })

/-- `AtomicAdd(steps, v)` (rules R10 and R54); `StepsOverflow` where the sum leaves a finite `STEPS_W` (R194). -/
def atomicAddSteps (v : Int) (s : State) : Except Fault State :=
  if stepsFits s.params.stepsW (s.steps + v) then .ok { s with steps := s.steps + v }
  else .error .stepsOverflow

/-- The host receives one response (rules R77 and R233). -/
def respond (status : Status) (value : Option RspValue) (s : State) : State :=
  { s with observed := { status, value } :: s.observed }

/-- A reserved event word is answered `BAD_CMD`, with no state change and no time (rule R80 a). -/
def answerReserved (s : State) : State := respond .badCmd none s

/-- The host sets the configuration port (rule R222 step 1; log entry 5). -/
def presentCfg (c : CfgIn) (s : State) : State := { s with cfgIn := c }

/-- Sub-step `ERRCNT` below the limit: count an errored poll, clear on a clean one (rule R103). -/
def countError (e : Bool) (s : State) : State :=
  { s with errCount := if e then s.errCount + 1 else 0 }

/-- Condition `ErrLimit`: the soft-disable entry. Nothing is saved, and there is no return from it (rules R192 and
R193). -/
def softDisable (s : State) : State :=
  { s with mode := .disabled, steps := 0, pressLatch := false }

/-- Sub-step `STOPCHK` with the stop flag set: the sampler stops (rule R101). -/
def stopSampler (s : State) : State := { s with mode := .stopped }

/-- The drain of `steps`: its response and the state after it (rule R171). -/
def drainSteps (s : State) : Rsp × State :=
  if drainsOpen s then
    ({ status := .ok, value := some (.steps (xchgSteps 0 s).1) }, (xchgSteps 0 s).2)
  else ({ status := .notReady, value := none }, s)

/-- The drain of `press_latch`: its response and the state after it (rule R172). -/
def drainPress (s : State) : Rsp × State :=
  if drainsOpen s then
    ({ status := .ok, value := some (.press (xchgPressLatch false s).1) }, (xchgPressLatch false s).2)
  else ({ status := .notReady, value := none }, s)

/-- What a response to `RDSTEPS` adds to the burst's `total`: its value with `OK`, else 0 (rule R175). -/
def rspSteps (r : Rsp) : Int :=
  match r.status, r.value with
  | .ok, some (.steps n) => n
  | _, _ => 0

/-- What a response to `RDPRESS` adds to the burst's `any`: its value with `OK`, else false (rule R175). -/
def rspPress (r : Rsp) : Bool :=
  match r.status, r.value with
  | .ok, some (.press b) => b
  | _, _ => false

end Sys2Proof.Machine
end

