-- ==== Sys2Proof/Machine/Button.lean ====
section
/-! DEFINITION. Sub-step `BTN`: level tracking, the debounce window, the press latch and its re-arming on release
(42_button.md rules R150 to R154). -/

namespace Sys2Proof.Machine

/-- Part 1 of `BTN`: a level change records the level and stamps the time; a release edge clears `press_blocked`
(rules R151 and R152). -/
def trackLevel (sw : Bool) (s : State) : State :=
  if levelChanged sw s then
    { s with
      lastButtonLevel := sw
      lastButtonChangeTime := s.now
      pressBlocked := if releaseEdge sw s then false else s.pressBlocked }
  else s

/-- Part 2 of `BTN`: where the latch condition holds, set the latch and block further latching (rules R153 and
R154). -/
def latchPress (sw : Bool) (s : State) : State :=
  if latchDue sw s then { (xchgPressLatch true s).2 with pressBlocked := true } else s

/-- Sub-step `BTN`: both parts, in this order (rule R150). -/
def btn (sw : Bool) (s : State) : State := latchPress sw (trackLevel sw s)

end Sys2Proof.Machine
end

