-- ==== Sys2Proof/Machine/Quadrature.lean ====
section
/-! DEFINITION. Sub-steps `QDEC` and `DETENT` and the sixteen rows of the transition table (41_quadrature.md). -/

namespace Sys2Proof.Machine

/-- The row `i` of the transition table, once selected: `accum <- accum + DIR * TT[i]`, and `prev_state` becomes the
new state of the index, whatever the delta was (rules R120 and R138). -/
def applyRow (i : Nibble) (s : State) : State :=
  { s with accum := s.accum + s.cfg.dir * tt i, prevState := indexNew i }

/-- Sub-step `QDEC`: the levels and `prev_state` select a row, and the row takes effect (rule R120). -/
def qdec (c d : Bool) (s : State) : State :=
  applyRow (tableIndex s.prevState (packState c d)) s

/-- Sub-step `DETENT` (rule R139). -/
def detent (s : State) : Except Fault State :=
  if s.cfg.ppr ≤ (s.accum.natAbs : Int) then
    match atomicAddSteps (trunc s.accum s.cfg.ppr) s with
    | .ok t => .ok { t with accum := t.accum - trunc s.accum s.cfg.ppr * t.cfg.ppr }
    | .error f => .error f
  else .ok s

/-- `QD.00_00` (rule R122). -/
def execQd00_00 (s : State) : Host.Outcome State Fault Refusal := .next (applyRow 0b0000#4 s)
/-- `QD.00_01` (rule R123). -/
def execQd00_01 (s : State) : Host.Outcome State Fault Refusal := .next (applyRow 0b0001#4 s)
/-- `QD.00_10` (rule R124). -/
def execQd00_10 (s : State) : Host.Outcome State Fault Refusal := .next (applyRow 0b0010#4 s)
/-- `QD.00_11` (rule R125). -/
def execQd00_11 (s : State) : Host.Outcome State Fault Refusal := .next (applyRow 0b0011#4 s)
/-- `QD.01_00` (rule R126). -/
def execQd01_00 (s : State) : Host.Outcome State Fault Refusal := .next (applyRow 0b0100#4 s)
/-- `QD.01_01` (rule R127). -/
def execQd01_01 (s : State) : Host.Outcome State Fault Refusal := .next (applyRow 0b0101#4 s)
/-- `QD.01_10` (rule R128). -/
def execQd01_10 (s : State) : Host.Outcome State Fault Refusal := .next (applyRow 0b0110#4 s)
/-- `QD.01_11` (rule R129). -/
def execQd01_11 (s : State) : Host.Outcome State Fault Refusal := .next (applyRow 0b0111#4 s)
/-- `QD.10_00` (rule R130). -/
def execQd10_00 (s : State) : Host.Outcome State Fault Refusal := .next (applyRow 0b1000#4 s)
/-- `QD.10_01` (rule R131). -/
def execQd10_01 (s : State) : Host.Outcome State Fault Refusal := .next (applyRow 0b1001#4 s)
/-- `QD.10_10` (rule R132). -/
def execQd10_10 (s : State) : Host.Outcome State Fault Refusal := .next (applyRow 0b1010#4 s)
/-- `QD.10_11` (rule R133). -/
def execQd10_11 (s : State) : Host.Outcome State Fault Refusal := .next (applyRow 0b1011#4 s)
/-- `QD.11_00` (rule R134). -/
def execQd11_00 (s : State) : Host.Outcome State Fault Refusal := .next (applyRow 0b1100#4 s)
/-- `QD.11_01` (rule R135). -/
def execQd11_01 (s : State) : Host.Outcome State Fault Refusal := .next (applyRow 0b1101#4 s)
/-- `QD.11_10` (rule R136). -/
def execQd11_10 (s : State) : Host.Outcome State Fault Refusal := .next (applyRow 0b1110#4 s)
/-- `QD.11_11` (rule R137). -/
def execQd11_11 (s : State) : Host.Outcome State Fault Refusal := .next (applyRow 0b1111#4 s)

end Sys2Proof.Machine
end

