-- ==== Sys2Proof/Machine/Poll.lean ====
section
/-! DEFINITION. The sampler tick `POLL`, its six sub-steps in the order of 40_poll_sequence.md rule R100. -/

namespace Sys2Proof.Machine

/-- The sub-steps `QDEC`, `DETENT` and `BTN` on one snapshot of levels (rule R100). -/
def decodeSample (l : Levels) (s : State) : Except Fault State :=
  match detent (qdec l.clk l.dt s) with
  | .ok t => .ok (btn l.sw t)
  | .error f => .error f

/-- One poll iteration of a running sampler: stop check, sample, error count, then the decode of the sample unless
the error limit is reached (rules R100 to R103; order: rule R197). -/
def pollIteration (e c d b : Bool) (s : State) : Except Fault State :=
  if s.stopFlag then .ok (stopSampler s)
  else if errLimitHit e s then .ok (softDisable (countError e s))
  else decodeSample (sampleLevels e c d b) (countError e s)

/-- One tick: time advances in every mode, and a poll iteration runs in `RUNNING` mode only (rules R100 and R104). -/
def pollTick (e c d b : Bool) (s : State) : Except Fault State :=
  match advanceTime s with
  | .ok t => if t.mode = .running then pollIteration e c d b t else .ok t
  | .error f => .error f

/-- `POLL` (rule R100). -/
def execPoll (e c d b : Bool) (s : State) : Host.Outcome State Fault Refusal :=
  outcomeOf (pollTick e c d b s)

end Sys2Proof.Machine
end

