-- ==== Sys2Proof/Machine/Burst.lean ====
section
/-! DEFINITION. The pseudo-operation `BURST` (rules R83 and R175): `N_SAMPLES` pairs `RDSTEPS`, `RDPRESS`, with a wait
of `INTER_SAMPLE_DELAY` between one pair and the next, during which the environment's ticks run. The expansion is
carried out in one step (log entry 8). -/

namespace Sys2Proof.Machine

/-- The environment's next choice, and the state without it; false where none is left (log entry 9). -/
def takeTurn (s : State) : Bool × State :=
  match s.turns with
  | [] => (false, s)
  | t :: rest => (t, { s with turns := rest })

/-- The bits of a sample nibble `e c d s` (rule R71). -/
def runSample (n : Nibble) (s : State) : Except Fault State :=
  pollTick (n.getLsbD 3) (n.getLsbD 2) (n.getLsbD 1) (n.getLsbD 0) s

/-- A tick for which the stream gives no sample: the sample is a free value (log entry 10). -/
def freeTick (s : State) : Except Fault State :=
  runSample (Config.tickSample s.draws) { s with draws := s.draws + 1 }

/-- One tick during a `BURST`: the stream's next entry if that is a tick, else a tick with a free sample (rules R38
and R83; log entry 10). -/
def environmentTick (s : State) : Except Fault State :=
  match s.inputs with
  | .event w :: rest =>
    match decodeE8 w with
    | .ok (.poll e c d b) => pollTick e c d b { s with inputs := rest }
    | _ => freeTick s
  | _ => freeTick s

/-- `n` ticks, one after another. -/
def runTicks : Nat → State → Except Fault State
  | 0, s => .ok s
  | n + 1, s =>
    match environmentTick s with
    | .ok t => runTicks n t
    | .error f => .error f

/-- How many ticks fall in one wait: `floor` or `ceil` of `delay / POLL_INTERVAL` (rule R83), the environment's choice
where the two differ, and the state without that choice (log entry 9). -/
def waitTicks (s : State) : Nat × State :=
  let d := s.params.interSampleDelay
  let p := tickInterval s
  if d % p = 0 then (d / p, s)
  else ((if (takeTurn s).1 then d / p + 1 else d / p), (takeTurn s).2)

/-- One wait of a `BURST` (rule R83). -/
def burstWait (s : State) : Except Fault State :=
  runTicks (waitTicks s).1 (waitTicks s).2

/-- Between the two commands of a pair a tick may fall (rules R60 a and R227): the environment's choice (log entry
9). -/
def burstGap (s : State) : Except Fault State :=
  runTicks (if (takeTurn s).1 then 1 else 0) (takeTurn s).2

/-- What `BURST` has summed so far: `total` and `any` (rule R175). -/
structure Tally where
  total : Int
  any : Bool
  deriving DecidableEq, Repr

/-- One pair `RDSTEPS`, `RDPRESS`: both responses reach the host and are added to the tally (rule R175). -/
def burstPair (a : Tally) (s : State) : Except Fault (Tally × State) :=
  let r := drainSteps s
  match burstGap (respond r.1.status r.1.value r.2) with
  | .ok t =>
    let q := drainPress t
    .ok ({ total := a.total + rspSteps r.1, any := a.any || rspPress q.1 },
      respond q.1.status q.1.value q.2)
  | .error f => .error f

/-- `n` pairs, with a wait after each pair but the last (rules R83 and R175). -/
def burstPairs : Nat → Tally → State → Except Fault (Tally × State)
  | 0, a, s => .ok (a, s)
  | n + 1, a, s =>
    match burstPair a s with
    | .ok (b, t) =>
      match n with
      | 0 => .ok (b, t)
      | m + 1 =>
        match burstWait t with
        | .ok u => burstPairs (m + 1) b u
        | .error f => .error f
    | .error f => .error f

/-- `BURST` (rule R175): the pair it returns stands in `burstResult`. -/
def execBurst (s : State) : Host.Outcome State Fault Refusal :=
  match burstPairs s.params.nSamples { total := 0, any := false } s with
  | .ok (a, t) => .next { t with burstResult := some (a.total, a.any) }
  | .error f => .fault f

end Sys2Proof.Machine
end

