-- ==== Sys2Proof/Machine/HostCommands.lean ====
section
/-! DEFINITION. The five host commands (43_host_commands.md rules R170 to R174). Every command answers, in every
mode. -/

namespace Sys2Proof.Machine

/-- The functional reset: every element gets its value of the table of rule R37. -/
def startWith (cfg : Cfg) (l : Levels) (s : State) : State :=
  { s with
    cfg
    accum := 0, steps := 0, pressLatch := false, pressBlocked := false, errCount := 0, stopFlag := false
    prevState := packState l.clk l.dt
    lastButtonLevel := l.sw
    lastButtonChangeTime := s.now
    linesOpen := true
    mode := .running }

/-- `START` (rule R170). -/
def execStart (e c d b : Bool) (s : State) : Host.Outcome State Fault Refusal :=
  if startBusy s then .next (respond .busy none s)
  else
    match presentedCfg s.cfgIn with
    | some cfg => .next (respond .ok none (startWith cfg (sampleLevels e c d b) s))
    | none => .next (respond .badCfg none s)

/-- `RDSTEPS` (rule R171). -/
def execRdsteps (s : State) : Host.Outcome State Fault Refusal :=
  .next (respond (drainSteps s).1.status (drainSteps s).1.value (drainSteps s).2)

/-- `RDPRESS` (rule R172). -/
def execRdpress (s : State) : Host.Outcome State Fault Refusal :=
  .next (respond (drainPress s).1.status (drainPress s).1.value (drainPress s).2)

/-- The effect of `CLOSE` before its response: signal the sampler, or stop the block where it is disabled, and
release the lines (rule R173; log entry 14). -/
def closeBlock (s : State) : State :=
  match s.mode with
  | .running => { s with stopFlag := true, linesOpen := false }
  | .disabled => { s with stopFlag := true, mode := .stopped, linesOpen := false }
  | .idle => { s with linesOpen := false }
  | .stopped => { s with linesOpen := false }

/-- `CLOSE` (rule R173). -/
def execClose (s : State) : Host.Outcome State Fault Refusal :=
  .next (respond .ok none (closeBlock s))

/-- `RDSTAT` (rule R174). -/
def execRdstat (s : State) : Host.Outcome State Fault Refusal :=
  .next (respond .ok (some (.stat (statWord s))) s)

end Sys2Proof.Machine
end

