-- ==== Sys2Proof/Machine/Dispatch.lean ====
section
/-! DEFINITION. `exec`: one arm per operation, each one call of its meaning. -/

namespace Sys2Proof.Machine

open Host

def exec (i : Instr) (s : State) : Host.Outcome State Fault Refusal :=
  match i with
  | .poll e c d b => Sys2Proof.Machine.execPoll e c d b s
  | .start e c d b => Sys2Proof.Machine.execStart e c d b s
  | .rdsteps => Sys2Proof.Machine.execRdsteps s
  | .rdpress => Sys2Proof.Machine.execRdpress s
  | .close => Sys2Proof.Machine.execClose s
  | .rdstat => Sys2Proof.Machine.execRdstat s
  | .qd00_00 => Sys2Proof.Machine.execQd00_00 s
  | .qd00_01 => Sys2Proof.Machine.execQd00_01 s
  | .qd00_10 => Sys2Proof.Machine.execQd00_10 s
  | .qd00_11 => Sys2Proof.Machine.execQd00_11 s
  | .qd01_00 => Sys2Proof.Machine.execQd01_00 s
  | .qd01_01 => Sys2Proof.Machine.execQd01_01 s
  | .qd01_10 => Sys2Proof.Machine.execQd01_10 s
  | .qd01_11 => Sys2Proof.Machine.execQd01_11 s
  | .qd10_00 => Sys2Proof.Machine.execQd10_00 s
  | .qd10_01 => Sys2Proof.Machine.execQd10_01 s
  | .qd10_10 => Sys2Proof.Machine.execQd10_10 s
  | .qd10_11 => Sys2Proof.Machine.execQd10_11 s
  | .qd11_00 => Sys2Proof.Machine.execQd11_00 s
  | .qd11_01 => Sys2Proof.Machine.execQd11_01 s
  | .qd11_10 => Sys2Proof.Machine.execQd11_10 s
  | .qd11_11 => Sys2Proof.Machine.execQd11_11 s
  | .burst => Sys2Proof.Machine.execBurst s

end Sys2Proof.Machine
end

