-- ==== Sys2Proof/Machine/Fetch.lean ====
section
/-! DEFINITION. The source of events: the next entry of the stream and what it asks for, and how one code is put
where the next step finds it (rules R34, R57 and R75; log entries 4, 5 and 7). The block has no program counter and
fetches no instructions; the stream stands for the trace that a run executes. -/

namespace Sys2Proof.Machine

/-- What the next entry of the stream asks for, with the state that no longer holds that entry. -/
inductive Fetched where
  /-- The stream is empty: the run has ended (rule R233). -/
  | ended
  /-- An operation. -/
  | operation (i : Instr) (s : State)
  /-- A reserved code (rule R80 a). -/
  | reserved (r : Reserved) (s : State)
  /-- The host sets the configuration port. -/
  | configure (c : CfgIn) (s : State)
  deriving DecidableEq, Repr

/-- Take the next entry of the stream and decode it. -/
def fetch (s : State) : Fetched :=
  match s.inputs with
  | [] => .ended
  | .configure c :: rest => .configure c { s with inputs := rest }
  | .event w :: rest =>
    match decode (.e8 w) with
    | .ok i => .operation i { s with inputs := rest }
    | .error r => .reserved r { s with inputs := rest }
  | .burst :: rest =>
    match decode (encode .burst) with
    | .ok i => .operation i { s with inputs := rest }
    | .error r => .reserved r { s with inputs := rest }

/-- Put a code where the next step finds it. An event word, or a call of `BURST`, becomes the next entry of the
stream. A table index cannot be an entry of the stream: a row is selected only inside a poll (rule R73), so the
next entry becomes a tick whose sample, with `prev_state`, selects that row, in a running block with no stop
pending (log entry 7). -/
def placeCode (c : Code) (s : State) : State :=
  match c with
  | .e8 w => { s with inputs := .event w :: s.inputs }
  | .pseudo _ => { s with inputs := .burst :: s.inputs }
  | .i4 i =>
    { s with
      mode := .running
      stopFlag := false
      prevState := indexPrev i
      inputs := .event (eventWord 0 false (i.getLsbD 1) (i.getLsbD 0) s.lastButtonLevel) :: s.inputs }

end Sys2Proof.Machine
end

