-- ==== Sys2Proof/Machine/Step.lean ====
section
/-! DEFINITION. One step: the next entry of the event stream takes effect as one atomic transition (rule R57). -/

namespace Sys2Proof.Machine

/-- One step. An empty stream means that the run has ended (rule R233): the state stays as it is (log entry 4). -/
def step (s : State) : Host.Outcome State Fault Refusal :=
  match fetch s with
  | .ended => .next s
  | .operation i t => exec i t
  | .reserved _ t => .next (answerReserved t)
  | .configure c t => .next (presentCfg c t)

/-- `s` with the operation whose bits are `w`, numbered as spec/opcode_table.json numbers them, placed where the next
step finds it. -/
def State.withFetchWord (s : State) (nbits w : Nat) : State := placeCode (tableCode nbits w) s

end Sys2Proof.Machine
end

