-- ==== Sys2Proof/Machine/TraceText.lean ====
section
/-! DEFINITION. The trace syntax: one event as a line of text (30_encoding.md rule R82; log entry 23). The expected
value after `->` and a comment after `;` are notes on a trace, not part of an event. -/

namespace Sys2Proof.Machine

/-- A level as a binary digit. -/
def levelChar (b : Bool) : Char := if b then '1' else '0'

/-- A binary digit as a level. -/
def charLevel (c : Char) : Option Bool :=
  if c = '1' then some true else if c = '0' then some false else none

/-- `cds[!]`: clock, data and button digits, then `!` where the read failed. -/
def sampleText (e c d s : Bool) : List Char :=
  [levelChar c, levelChar d, levelChar s] ++ if e then ['!'] else []

/-- The line of an event, without padding; table rows and `BURST` have no line of their own (rule R83). -/
def traceLine (i : Instr) : Option (List Char) :=
  match i with
  | .poll e c d s => some (['P', 'O', 'L', 'L', ' '] ++ sampleText e c d s)
  | .start e c d s => some (['S', 'T', 'A', 'R', 'T', ' '] ++ sampleText e c d s)
  | .rdsteps => some ['R', 'D', 'S', 'T', 'E', 'P', 'S']
  | .rdpress => some ['R', 'D', 'P', 'R', 'E', 'S', 'S']
  | .close => some ['C', 'L', 'O', 'S', 'E']
  | .rdstat => some ['R', 'D', 'S', 'T', 'A', 'T']
  | _ => none

/-- The sample that `cds[!]` writes: `e`, then clock, data and button. -/
def readSample (l : List Char) : Option (Bool × Bool × Bool × Bool) :=
  match l with
  | [c, d, s] =>
    match charLevel c, charLevel d, charLevel s with
    | some x, some y, some z => some (false, x, y, z)
    | _, _, _ => none
  | [c, d, s, '!'] =>
    match charLevel c, charLevel d, charLevel s with
    | some x, some y, some z => some (true, x, y, z)
    | _, _, _ => none
  | _ => none

/-- The event a line writes. -/
def readLine (l : List Char) : Option Instr :=
  match l with
  | ['R', 'D', 'S', 'T', 'E', 'P', 'S'] => some .rdsteps
  | ['R', 'D', 'P', 'R', 'E', 'S', 'S'] => some .rdpress
  | ['C', 'L', 'O', 'S', 'E'] => some .close
  | ['R', 'D', 'S', 'T', 'A', 'T'] => some .rdstat
  | 'P' :: 'O' :: 'L' :: 'L' :: ' ' :: r => (readSample r).map fun q => .poll q.1 q.2.1 q.2.2.1 q.2.2.2
  | 'S' :: 'T' :: 'A' :: 'R' :: 'T' :: ' ' :: r => (readSample r).map fun q => .start q.1 q.2.1 q.2.2.1 q.2.2.2
  | _ => none

end Sys2Proof.Machine
end

