-- ==== Sys2Proof/Safety.lean ====
section
/-! DEFINITION. The terms in which claims speak of runs: runs and their end, the invariant, and the accounts of
transitions and drained detents (10_state.md rules R35 and R36; 70_reset_and_hazards.md rule R233). -/

namespace Sys2Proof.Machine

/-- The state after `k` steps, where none of them stops. -/
def runSteps : Nat → State → Option State
  | 0, s => some s
  | k + 1, s =>
    match step s with
    | .next t => runSteps k t
    | _ => none

/-- The run has ended: the last entry of the stream has been executed (rule R233). -/
abbrev State.ended (s : State) : Prop := s.inputs = []

/-- The run has ended cleanly (rule R233). -/
abbrev State.endedCleanly (s : State) : Prop := s.ended ∧ (s.mode = .stopped ∨ s.mode = .idle)

/-- The counters exist: the block was started and has not stopped (rules R30 and R37). -/
abbrev State.active (s : State) : Prop := s.mode = .running ∨ s.mode = .disabled

/-- Between events the accumulator is short of one detent (rule R35). -/
abbrev State.accumInRange (s : State) : Prop := -(s.cfg.ppr - 1) ≤ s.accum ∧ s.accum ≤ s.cfg.ppr - 1

/-- The invariant of the block: what the spec says of the state between events. -/
structure State.Inv (s : State) : Prop where
  /-- R33, R80 c: only a legal configuration is latched. -/
  cfg_legal : s.active → cfgLegal s.cfg = true
  /-- R35. -/
  accum_range : s.active → s.accumInRange
  /-- R22, R194: `steps` fits its cell. -/
  steps_fit : s.active → stepsFits s.params.stepsW s.steps = true
  /-- R26: the last button change is not in the future. -/
  change_past : s.active → s.lastButtonChangeTime ≤ s.now
  /-- R27, R154: latching is blocked only while the button is seen active. -/
  blocked_active : s.active → s.pressBlocked = true → s.lastButtonLevel = s.cfg.activeLevel
  /-- R28: below the limit while the sampler polls. -/
  err_below : s.mode = .running → s.errCount < s.cfg.errLimit
  /-- R28: at the limit once the block has disabled itself. -/
  err_at : s.mode = .disabled → s.errCount = s.cfg.errLimit
  /-- R192: nothing is pending in a disabled block. -/
  disabled_empty : s.mode = .disabled → s.steps = 0 ∧ s.pressLatch = false
  /-- R176: no stop is pending in `IDLE` and `DISABLED`. -/
  stop_clear : s.mode = .idle ∨ s.mode = .disabled → s.stopFlag = false
  /-- R176: in `STOPPED` the stop flag is always 1. -/
  stop_set : s.mode = .stopped → s.stopFlag = true
  /-- R31: the lines are held from `START` to the completion of `CLOSE`. -/
  lines_held : s.linesOpen = true ↔ s.active ∧ s.stopFlag = false
  /-- U7: the time fits its counter. -/
  time_fits : timeFits s.params.timeW s.now = true

/-- A poll of this state reaches the decode step (rules R100 to R104). -/
def reachesDecode (e : Bool) (s : State) : Bool :=
  s.mode == .running && !s.stopFlag && !errLimitHit e s

/-- The signed table delta of one sample: `DIR * TT[idx]` (rule R79 step 4). -/
def sampleDelta (e c d b : Bool) (s : State) : Int :=
  s.cfg.dir * tt (tableIndex s.prevState (packState (sampleLevels e c d b).clk (sampleLevels e c d b).dt))

/-- The signed delta of the next step, where that is a poll that reaches the decode step; else 0. -/
def nextDelta (s : State) : Int :=
  match fetch s with
  | .operation (.poll e c d b) t => if reachesDecode e t then sampleDelta e c d b t else 0
  | _ => 0

/-- `T` of rule R36: the sum of the signed deltas over `k` steps. -/
def runDelta : Nat → State → Int
  | 0, _ => 0
  | k + 1, s =>
    nextDelta s +
      match step s with
      | .next t => runDelta k t
      | _ => 0

/-- The sum of all values returned by `RDSTEPS` with status `OK` (rule R36). -/
def drainedSum (l : List Rsp) : Int := (l.map rspSteps).sum

/-- Some `RDPRESS` returned 1 with status `OK`. -/
def pressSeen (l : List Rsp) : Bool := l.any rspPress

/-- The next entry of the stream is not a call of `BURST`: a trace shows its expansion (rule R83). -/
def notBurstNext (s : State) : Bool :=
  match s.inputs with
  | .burst :: _ => false
  | _ => true

/-- The block is `RUNNING` now and after each of `k` steps, none of which is a `BURST`. -/
def keepsRunning : Nat → State → Prop
  | 0, s => s.mode = .running
  | k + 1, s => s.mode = .running ∧ notBurstNext s = true ∧ ∃ t, step s = .next t ∧ keepsRunning k t

/-- Two states are equal but for the eight elements that are nonexistent in `IDLE` and destroyed in `STOPPED` (rules
R37 and R221; 93_implementation_defined.md U5). -/
abbrev agreeButCounters (s t : State) : Prop :=
  t = { s with
        accum := t.accum, steps := t.steps, prevState := t.prevState, pressLatch := t.pressLatch
        lastButtonLevel := t.lastButtonLevel, lastButtonChangeTime := t.lastButtonChangeTime
        pressBlocked := t.pressBlocked, errCount := t.errCount }

/-- Two states are equal but for what is private to the sampler (rules R59 and R199). -/
abbrev agreeButPrivate (s t : State) : Prop :=
  t = { s with
        accum := t.accum, prevState := t.prevState, lastButtonLevel := t.lastButtonLevel
        lastButtonChangeTime := t.lastButtonChangeTime, pressBlocked := t.pressBlocked, errCount := t.errCount }

/-- The configuration with `DIR` negated (rule R8). -/
def mirrorCfg (c : Cfg) : Cfg := { c with dir := -c.dir }

/-- A presented configuration with `DIR` negated: in `CFG0` that is bit 3 (rule R78). -/
def mirrorCfgIn : CfgIn → CfgIn
  | .record c => .record (mirrorCfg c)
  | .packed w poll deb err => .packed (w ^^^ 0x08#8) poll deb err

/-- An entry of the stream with `DIR` negated. -/
def mirrorInput : Input → Input
  | .event w => .event w
  | .burst => .burst
  | .configure c => .configure (mirrorCfgIn c)

/-- A response with a drained number of detents negated. -/
def mirrorRsp (r : Rsp) : Rsp :=
  { r with
    value := match r.value with
      | some (.steps n) => some (.steps (-n))
      | v => v }

/-- The same block with the other sign of the transition table: `DIR`, `accum`, `steps` and every drained value
negated, nothing else changed (rules R8 and R143; 95_test_vectors.md Part 4, 10). -/
def State.mirror (s : State) : State :=
  { s with
    accum := -s.accum, steps := -s.steps, cfg := mirrorCfg s.cfg, cfgIn := mirrorCfgIn s.cfgIn
    inputs := s.inputs.map mirrorInput, observed := s.observed.map mirrorRsp
    burstResult := s.burstResult.map fun p => (-p.1, p.2) }

end Sys2Proof.Machine
end

