-- ==== Sys2Proof/Certificates/Slice0/Obligations.lean ====
section
/-! DEFINITION. The statements about the model, for the provers. Each docstring names the rules it formalises; a
clause that rests on the model's own choice names the log entry. -/

open Sys2Proof Sys2Proof.Machine

/-! ### Encodings -/

/-- Rules R73, R75, R76 and R80 a: a code decodes to an operation exactly when it is that operation's code, in all
three formats. -/
def Obligations.DecodeInvertsEncode : Prop :=
  ∀ (c : Code) (i : Instr), decode c = .ok i ↔ c = encode i

/-- Rules R71 to R76: words written out from the tables decode to the operations they stand for (95_test_vectors.md:
`POLL 011` is 0x03, `POLL 000!` is 0x08, `START 111` is 0x27). -/
def Obligations.TableWordsDecode : Prop :=
  decodeE8 0x03#8 = .ok (.poll false false true true) ∧ decodeE8 0x08#8 = .ok (.poll true false false false) ∧
  decodeE8 0x27#8 = .ok (.start false true true true) ∧ decodeE8 0x40#8 = .ok .rdsteps ∧
  decodeE8 0x60#8 = .ok .rdpress ∧ decodeE8 0x80#8 = .ok .close ∧ decodeE8 0xA0#8 = .ok .rdstat ∧
  decodeI4 0b1101#4 = .qd11_01 ∧ decode (.pseudo 0x4060#16) = .ok .burst ∧
  decodeE8 0xC0#8 = .error .opcode ∧ decodeE8 0x50#8 = .error .zBit ∧ decodeE8 0x41#8 = .error .nibble

/-- Rule R80 a: a word with `op` 6 or 7, or with `z` = 1, or with `op` 2 to 5 and a nibble other than 0, is answered
`BAD_CMD`, with no state change and no time; every other word runs as an operation. -/
def Obligations.ReservedWordsAnswerBadCmd : Prop :=
  ∀ (s : State) (w : Byte) (rest : List Input), s.inputs = .event w :: rest →
    (if 6 ≤ w.toNat / 32 ∨ w.toNat / 16 % 2 = 1 ∨ (2 ≤ w.toNat / 32 ∧ w.toNat % 16 ≠ 0) then
      step s = .next { s with inputs := rest, observed := { status := .badCmd, value := none } :: s.observed }
    else ∃ i, decodeE8 w = .ok i ∧ step s = exec i { s with inputs := rest })

/-- Rule R82: the line of each event, letter by letter: the mnemonic, and for `POLL` and `START` the digits of clock,
data and button in this order, then `!` where `e` = 1; the line is read back as that event, and the three lines that
the rule writes out encode as the words it gives. Table rows and `BURST` have no line (rule R83). The text without
padding is the model's choice (log entry 23). -/
def Obligations.TraceLinesReadBack : Prop :=
  (∀ i : Instr,
    match encode i with
    | .e8 _ => (traceLine i).bind readLine = some i
    | _ => traceLine i = none) ∧
  (∀ e c d b : Bool,
    let digit (x : Bool) : Char := if x then '1' else '0'
    let sample := [digit c, digit d, digit b] ++ if e then ['!'] else []
    traceLine (.poll e c d b) = some (['P', 'O', 'L', 'L', ' '] ++ sample) ∧
    traceLine (.start e c d b) = some (['S', 'T', 'A', 'R', 'T', ' '] ++ sample)) ∧
  traceLine .rdsteps = some ['R', 'D', 'S', 'T', 'E', 'P', 'S'] ∧
  traceLine .rdpress = some ['R', 'D', 'P', 'R', 'E', 'S', 'S'] ∧
  traceLine .close = some ['C', 'L', 'O', 'S', 'E'] ∧ traceLine .rdstat = some ['R', 'D', 'S', 'T', 'A', 'T'] ∧
  (readLine ['P', 'O', 'L', 'L', ' ', '0', '1', '1']).map encode = some (.e8 0x03#8) ∧
  (readLine ['P', 'O', 'L', 'L', ' ', '0', '0', '0', '!']).map encode = some (.e8 0x08#8) ∧
  (readLine ['S', 'T', 'A', 'R', 'T', ' ', '1', '1', '1']).map encode = some (.e8 0x27#8)

/-! ### The step and the stream -/

/-- Rules R57 and R75: the next entry of the stream that decodes to an operation is executed, on the state that no
longer holds that entry; a call of `BURST` likewise (log entries 4 and 8). -/
def Obligations.StepRunsDecodedOperation : Prop :=
  ∀ (s : State) (rest : List Input) (i : Instr),
    (∀ w, s.inputs = .event w :: rest → decode (.e8 w) = .ok i → i.wellFormed = true →
      step s = exec i { s with inputs := rest }) ∧
    (s.inputs = .burst :: rest → step s = exec .burst { s with inputs := rest })

/-- The model's choice (log entries 4 and 5): with an empty stream the run has ended and a step changes nothing; an
entry that sets the configuration port sets it, and nothing else. -/
def Obligations.StepWithoutEvent : Prop :=
  ∀ s : State,
    (s.ended → step s = .next s) ∧
    (∀ c rest, s.inputs = .configure c :: rest → step s = .next { s with inputs := rest, cfgIn := c })

/-! ### The transition table -/

/-- Rule R74: the packed ROM constant holds the table, and never the reserved pattern `0b10`. -/
def Obligations.RomImageHoldsTable : Prop :=
  ∀ i : Nibble, romDelta i = tt i ∧ romImage.extractLsb' (2 * i.toNat) 2 ≠ 0b10#2

/-- Rule R121: the table is antisymmetric, is not 0 exactly on the pairs that differ in one bit, and is +1 along the
cycle 11, 01, 00, 10, 11. -/
def Obligations.TableStructure : Prop :=
  (∀ a b : QState, tt (tableIndex a b) = -tt (tableIndex b a) ∧
    (tt (tableIndex a b) ≠ 0 ↔ a ^^^ b = 0b01#2 ∨ a ^^^ b = 0b10#2)) ∧
  tt (tableIndex 0b11 0b01) = 1 ∧ tt (tableIndex 0b01 0b00) = 1 ∧ tt (tableIndex 0b00 0b10) = 1 ∧
  tt (tableIndex 0b10 0b11) = 1

/-- Rules R122, R127, R132, R137 (with R120 and R138): the four holds leave `accum` unchanged, and with their own
previous state they leave the whole state unchanged. That a row is an
operation on every state, in any mode and whatever `prev_state` is, is the model's choice (log entry 7). -/
def Obligations.HoldRowsChangeNothing : Prop :=
  ∀ s : State,
    (exec .qd00_00 s = .next { s with prevState := 0b00#2 } ∧ tt 0b0000#4 = 0) ∧
    (exec .qd01_01 s = .next { s with prevState := 0b01#2 } ∧ tt 0b0101#4 = 0) ∧
    (exec .qd10_10 s = .next { s with prevState := 0b10#2 } ∧ tt 0b1010#4 = 0) ∧
    (exec .qd11_11 s = .next { s with prevState := 0b11#2 } ∧ tt 0b1111#4 = 0) ∧
    (s.prevState = 0b00#2 → exec .qd00_00 s = .next s) ∧ (s.prevState = 0b01#2 → exec .qd01_01 s = .next s) ∧
    (s.prevState = 0b10#2 → exec .qd10_10 s = .next s) ∧ (s.prevState = 0b11#2 → exec .qd11_11 s = .next s)

/-- Rules R125, R128, R131, R134 (with R120 and R138): the four invalid rows leave `accum` unchanged, and `prev_state`
becomes the new state. That a row is an
operation on every state, in any mode and whatever `prev_state` is, is the model's choice (log entry 7). -/
def Obligations.InvalidRowsMoveStateOnly : Prop :=
  ∀ s : State,
    (exec .qd00_11 s = .next { s with prevState := 0b11#2 } ∧ tt 0b0011#4 = 0) ∧
    (exec .qd01_10 s = .next { s with prevState := 0b10#2 } ∧ tt 0b0110#4 = 0) ∧
    (exec .qd10_01 s = .next { s with prevState := 0b01#2 } ∧ tt 0b1001#4 = 0) ∧
    (exec .qd11_00 s = .next { s with prevState := 0b00#2 } ∧ tt 0b1100#4 = 0)

/-- Rules R124, R126, R133, R135 (with R120 and R138): the four forward rows add `DIR` to `accum`, and `prev_state`
becomes the new state. That a row is an
operation on every state, in any mode and whatever `prev_state` is, is the model's choice (log entry 7). -/
def Obligations.ForwardRowsAddDir : Prop :=
  ∀ s : State,
    (exec .qd00_10 s = .next { s with accum := s.accum + s.cfg.dir, prevState := 0b10#2 } ∧ tt 0b0010#4 = 1) ∧
    (exec .qd01_00 s = .next { s with accum := s.accum + s.cfg.dir, prevState := 0b00#2 } ∧ tt 0b0100#4 = 1) ∧
    (exec .qd10_11 s = .next { s with accum := s.accum + s.cfg.dir, prevState := 0b11#2 } ∧ tt 0b1011#4 = 1) ∧
    (exec .qd11_01 s = .next { s with accum := s.accum + s.cfg.dir, prevState := 0b01#2 } ∧ tt 0b1101#4 = 1)

/-- Rules R123, R129, R130, R136 (with R120 and R138): the four backward rows subtract `DIR` from `accum`, and
`prev_state` becomes the new state. That a row is an
operation on every state, in any mode and whatever `prev_state` is, is the model's choice (log entry 7). -/
def Obligations.BackwardRowsSubtractDir : Prop :=
  ∀ s : State,
    (exec .qd00_01 s = .next { s with accum := s.accum - s.cfg.dir, prevState := 0b01#2 } ∧ tt 0b0001#4 = -1) ∧
    (exec .qd01_11 s = .next { s with accum := s.accum - s.cfg.dir, prevState := 0b11#2 } ∧ tt 0b0111#4 = -1) ∧
    (exec .qd10_00 s = .next { s with accum := s.accum - s.cfg.dir, prevState := 0b00#2 } ∧ tt 0b1000#4 = -1) ∧
    (exec .qd11_10 s = .next { s with accum := s.accum - s.cfg.dir, prevState := 0b10#2 } ∧ tt 0b1110#4 = -1)

/-- Rules R73, R120 and R139: a clean poll of a running block runs the one row that `prev_state` and the sampled
levels select, and its detent step keeps `steps * PPR + accum` as that row left it. That `exec` runs a row by itself
is the model's choice (log entry 7). -/
def Obligations.PollRunsSelectedRow : Prop :=
  ∀ (s : State) (c d b : Bool),
    s.mode = .running → s.stopFlag = false → s.params.stepsW = none → s.params.timeW = none →
    ∃ r t, exec (decodeI4 (s.prevState ++ (BitVec.ofBool c ++ BitVec.ofBool d))) s = .next r ∧
      exec (.poll false c d b) s = .next t ∧ t.prevState = r.prevState ∧
      t.steps * s.cfg.ppr + t.accum = s.steps * s.cfg.ppr + r.accum

/-! ### The poll -/

/-- Rule R12: `trunc` is the quotient truncated toward zero. -/
def Obligations.TruncTowardZero : Prop :=
  ∀ a b : Int, 0 < b →
    (0 ≤ a → trunc a b = ((a.natAbs / b.natAbs : Nat) : Int)) ∧
    (a < 0 → trunc a b = -((a.natAbs / b.natAbs : Nat) : Int))

/-- Rule R104: outside `RUNNING` a tick advances `now` and does nothing else. By how much it advances in `IDLE`,
where no `cfg` is latched, is left open here (log entry 6). -/
def Obligations.TickOutsideRunningAdvancesTimeOnly : Prop :=
  ∀ (s : State) (e c d b : Bool),
    s.mode ≠ .running → timeFits s.params.timeW (s.now + tickInterval s) = true →
    ∃ n, exec (.poll e c d b) s = .next { s with now := s.now + n } ∧ (s.mode ≠ .idle → n = s.cfg.pollInterval)

/-- The model's choice (log entry 6): before the first `START` a tick advances `now` by the presented interval. -/
def Obligations.IdleTickUsesPresentedInterval : Prop :=
  ∀ (s : State) (e c d b : Bool), s.mode = .idle →
    (∀ r, s.cfgIn = .record r → timeFits s.params.timeW (s.now + r.pollInterval) = true →
      exec (.poll e c d b) s = .next { s with now := s.now + r.pollInterval }) ∧
    (∀ w p q l, s.cfgIn = .packed w p q l → timeFits s.params.timeW (s.now + p) = true →
      exec (.poll e c d b) s = .next { s with now := s.now + p })

/-- Rule R101: with the stop flag set the tick sets `mode` to `STOPPED` and ends: whatever the sample, no counter
changes. -/
def Obligations.StopCheckStopsSampler : Prop :=
  ∀ (s : State) (e c d b : Bool),
    s.mode = .running → s.stopFlag = true → timeFits s.params.timeW (s.now + s.cfg.pollInterval) = true →
    exec (.poll e c d b) s = .next { s with now := s.now + s.cfg.pollInterval, mode := .stopped }

/-- Rules R103 and R192: the errored poll that reaches `ERR_LIMIT` disables the block, clears both shared cells and
decodes nothing; every other element keeps its value. -/
def Obligations.ErrorLimitDisables : Prop :=
  ∀ (s : State) (c d b : Bool),
    s.mode = .running → s.stopFlag = false → s.cfg.errLimit ≤ s.errCount + 1 →
    timeFits s.params.timeW (s.now + s.cfg.pollInterval) = true →
    exec (.poll true c d b) s =
      .next { s with
              now := s.now + s.cfg.pollInterval, errCount := s.errCount + 1, mode := .disabled, steps := 0
              pressLatch := false }

/-- Rule R100 with R102, R103, R120, R138, R139 and R150 to R154: what a poll that reaches the decode step leaves,
element by element. -/
def Obligations.PollIterationEffect : Prop :=
  ∀ (s : State) (e c d b : Bool),
    s.mode = .running → s.stopFlag = false → (e = true → s.errCount + 1 < s.cfg.errLimit) →
    timeFits s.params.timeW (s.now + s.cfg.pollInterval) = true →
    let clk := e || c
    let dt := e || d
    let sw := e || b
    let new : QState := BitVec.ofBool clk ++ BitVec.ofBool dt
    let a := s.accum + s.cfg.dir * tt (s.prevState ++ new)
    let det := if s.cfg.ppr ≤ (a.natAbs : Int) then trunc a s.cfg.ppr else 0
    let now := s.now + s.cfg.pollInterval
    let since := if sw = s.lastButtonLevel then s.lastButtonChangeTime else now
    let released := decide (sw ≠ s.lastButtonLevel ∧ sw ≠ s.cfg.activeLevel)
    let blocked := s.pressBlocked && !released
    let latch := decide (sw = s.cfg.activeLevel ∧ blocked = false ∧ s.cfg.debounceWindow ≤ now - since)
    (s.cfg.ppr ≤ (a.natAbs : Int) → stepsFits s.params.stepsW (s.steps + det) = true) →
    exec (.poll e c d b) s =
      .next { s with
              now := now
              errCount := if e then s.errCount + 1 else 0
              accum := a - det * s.cfg.ppr
              steps := s.steps + det
              prevState := new
              lastButtonLevel := sw
              lastButtonChangeTime := since
              pressLatch := s.pressLatch || latch
              pressBlocked := blocked || latch }

/-- Rule R194: with a finite `STEPS_W`, a poll whose detent would take `steps` out of its range is the fault
`StepsOverflow`. -/
def Obligations.StepsOverflowFaults : Prop :=
  ∀ (s : State) (e c d b : Bool) (w : Nat),
    s.mode = .running → s.stopFlag = false → (e = true → s.errCount + 1 < s.cfg.errLimit) →
    timeFits s.params.timeW (s.now + s.cfg.pollInterval) = true → s.params.stepsW = some w →
    let a := s.accum + s.cfg.dir * tt (s.prevState ++ (BitVec.ofBool (e || c) ++ BitVec.ofBool (e || d)))
    s.cfg.ppr ≤ (a.natAbs : Int) →
    (s.steps + trunc a s.cfg.ppr < -(2 ^ (w - 1)) ∨ 2 ^ (w - 1) ≤ s.steps + trunc a s.cfg.ppr) →
    exec (.poll e c d b) s = .fault .stepsOverflow

/-- 93_implementation_defined.md U7: with a finite `TIME_W`, a tick whose time would wrap is a fault. -/
def Obligations.TimeWrapFaults : Prop :=
  ∀ (s : State) (e c d b : Bool) (w : Nat),
    s.params.timeW = some w → 2 ^ w ≤ s.now + tickInterval s → exec (.poll e c d b) s = .fault .timeWrap

/-- Rule R102: below the limit, an errored poll does what a clean poll of levels 1, 1, 1 does, whatever levels came
with it, save that it is counted. -/
def Obligations.ErroredPollReadsHigh : Prop :=
  ∀ (s t : State) (c d b : Bool),
    s.mode = .running → s.stopFlag = false → s.errCount + 1 < s.cfg.errLimit →
    exec (.poll false true true true) s = .next t →
    exec (.poll true c d b) s = .next { t with errCount := s.errCount + 1 }

/-- Rule R199: a tick touches the sampler's elements, the two shared cells, `mode` and `now`, and nothing else. -/
def Obligations.PollFrame : Prop :=
  ∀ (s t : State) (e c d b : Bool), exec (.poll e c d b) s = .next t →
    t = { s with
          now := t.now, mode := t.mode, accum := t.accum, steps := t.steps, prevState := t.prevState
          pressLatch := t.pressLatch, lastButtonLevel := t.lastButtonLevel
          lastButtonChangeTime := t.lastButtonChangeTime, pressBlocked := t.pressBlocked, errCount := t.errCount }

/-- Rule R140: from a state that meets the invariant, one poll that leaves the block running changes `steps` by −1, 0
or +1, and where it changes `steps` it leaves `accum` = 0. -/
def Obligations.OneDetentPerPoll : Prop :=
  ∀ (s t : State) (e c d b : Bool), s.Inv → s.mode = .running → exec (.poll e c d b) s = .next t → t.mode = .running →
    (t.steps = s.steps - 1 ∨ t.steps = s.steps ∨ t.steps = s.steps + 1) ∧ (t.steps ≠ s.steps → t.accum = 0)

/-! ### The button over several polls -/

/-- Rules R153, R155, R156 and R158 b: from a released, unblocked button, after `n` clean polls that all see it
active the latch is set exactly when `(n - 1) * POLL_INTERVAL >= DEBOUNCE_WINDOW`, and the time of the change is that
of the first of them. -/
def Obligations.LatchSetAfterWindow : Prop :=
  ∀ (l : List Byte) (rest : List Input) (s : State),
    l ≠ [] → s.inputs = l.map Input.event ++ rest →
    (∀ w ∈ l, ∃ c d, decodeE8 w = .ok (.poll false c d s.cfg.activeLevel)) →
    s.mode = .running → s.stopFlag = false → s.params.stepsW = none → s.params.timeW = none →
    s.lastButtonLevel ≠ s.cfg.activeLevel → s.pressBlocked = false → s.pressLatch = false →
    ∃ t, runSteps l.length s = some t ∧ t.inputs = rest ∧
      t.pressLatch = decide (s.cfg.debounceWindow ≤ (l.length - 1) * s.cfg.pollInterval) ∧
      t.pressBlocked = t.pressLatch ∧ t.lastButtonChangeTime = s.now + s.cfg.pollInterval

/-- Rule R159 (with R153): a button that `START` and then `n` clean polls see active is latched exactly when
`n > 0` and `n * POLL_INTERVAL >= DEBOUNCE_WINDOW`: the window is measured from `START`. -/
def Obligations.HeldAtStartLatches : Prop :=
  ∀ (l : List Byte) (rest : List Input) (s t : State) (c d : Bool) (r : Cfg),
    s.mode = .idle ∨ s.mode = .stopped → presentedCfg s.cfgIn = some r → s.inputs = l.map Input.event ++ rest →
    (∀ w ∈ l, ∃ x y, decodeE8 w = .ok (.poll false x y r.activeLevel)) →
    s.params.stepsW = none → s.params.timeW = none → exec (.start false c d r.activeLevel) s = .next t →
    ∃ u, runSteps l.length t = some u ∧ u.inputs = rest ∧ u.lastButtonChangeTime = s.now ∧
      u.pressLatch = decide (l ≠ [] ∧ r.debounceWindow ≤ l.length * r.pollInterval)

/-- Rule R202: a clean poll that presents the levels last seen, with the button inactive, is a hold: `now` advances
and nothing else changes. -/
def Obligations.UnchangedLinesReportNothing : Prop :=
  ∀ (s : State) (c d b : Bool), s.Inv →
    s.mode = .running → s.stopFlag = false → s.errCount = 0 → s.prevState = BitVec.ofBool c ++ BitVec.ofBool d →
    s.lastButtonLevel = b → b ≠ s.cfg.activeLevel →
    timeFits s.params.timeW (s.now + s.cfg.pollInterval) = true →
    exec (.poll false c d b) s = .next { s with now := s.now + s.cfg.pollInterval }

/-- Rule R154: while the button is seen active after a latch, no number of ticks sets the latch again, and draining it
does not re-arm it. -/
def Obligations.HeldButtonLatchesOnce : Prop :=
  ∀ (k : Nat) (s t : State),
    (∀ x ∈ s.inputs.take k, ∃ w, x = .event w ∧
      (decodeE8 w = .ok .rdsteps ∨ decodeE8 w = .ok .rdpress ∨ decodeE8 w = .ok .rdstat ∨
        ∃ e c d b, decodeE8 w = .ok (.poll e c d b) ∧ (e || b) = s.cfg.activeLevel)) →
    s.pressBlocked = true → s.pressLatch = false → runSteps k s = some t →
    t.pressLatch = false ∧ t.pressBlocked = true

/-- Rules R24, R152 and R157 (90_conflicts.md C8): while the block runs, nothing but `RDPRESS` clears a set latch; in
particular a release of the button does not. -/
def Obligations.LatchStaysUntilDrained : Prop :=
  ∀ (s t : State) (w : Byte) (rest : List Input),
    s.inputs = .event w :: rest → decodeE8 w ≠ .ok .rdpress → s.mode = .running → s.pressLatch = true →
    step s = .next t → t.mode = .running → t.pressLatch = true

/-! ### Host commands -/

/-- Rules R170 and R37: `START` in `IDLE` or `STOPPED` with a legal configuration gives every element its value of the
table, and answers `OK`. -/
def Obligations.StartResetsEveryElement : Prop :=
  ∀ (s : State) (e c d b : Bool) (r : Cfg),
    s.mode = .idle ∨ s.mode = .stopped → presentedCfg s.cfgIn = some r →
    exec (.start e c d b) s =
      .next { s with
              accum := 0, steps := 0, prevState := BitVec.ofBool (e || c) ++ BitVec.ofBool (e || d)
              pressLatch := false, lastButtonLevel := e || b, lastButtonChangeTime := s.now, pressBlocked := false
              errCount := 0, stopFlag := false, mode := .running, linesOpen := true, cfg := r
              observed := { status := .ok, value := none } :: s.observed }

/-- Rules R170 and R176: `START` answers `BUSY` in `RUNNING` and `DISABLED`, and `BAD_CFG` on an illegal
configuration, and changes nothing. -/
def Obligations.StartTurnedAway : Prop :=
  ∀ (s : State) (e c d b : Bool),
    (s.mode = .running ∨ s.mode = .disabled →
      exec (.start e c d b) s = .next { s with observed := { status := .busy, value := none } :: s.observed }) ∧
    (s.mode = .idle ∨ s.mode = .stopped → presentedCfg s.cfgIn = none →
      exec (.start e c d b) s = .next { s with observed := { status := .badCfg, value := none } :: s.observed })

/-- Rules R33 and R80 c: a presented record is accepted exactly when its fields are legal. That a `DIR` other than
+1 and −1 is illegal is read from rule R33 (log entry 17). -/
def Obligations.LegalConfigurationsAccepted : Prop :=
  ∀ r : Cfg,
    presentedCfg (.record r) =
      if (r.ppr = 1 ∨ r.ppr = 2 ∨ r.ppr = 4) ∧ (r.dir = 1 ∨ r.dir = -1) ∧ 0 < r.pollInterval ∧ 1 ≤ r.errLimit
      then some r else none

/-- Rules R78 and R80 c: what a word `CFG0` and its three numbers present, by the bits of the word: bits 1:0 = 0, 1, 2
mean `PPR` 1, 2, 4, bit 2 is `ACTIVE_LEVEL`, and bit 3 set means `DIR` = −1; `PPR_SEL` = 3, a bit of 7:4, a zero
interval and a zero error limit present none. The word `CFG0` of a legal configuration presents that configuration, and
no other word does. -/
def Obligations.PackedConfiguration : Prop :=
  (∀ (w : Byte) (p q l : Nat),
    presentedCfg (.packed w p q l) =
      if w.toNat % 4 ≤ 2 ∧ w.toNat < 16 ∧ 0 < p ∧ 0 < l then
        some
          { ppr := if w.toNat % 4 = 0 then 1 else if w.toNat % 4 = 1 then 2 else 4
            activeLevel := w.getLsbD 2
            dir := if w.getLsbD 3 then -1 else 1
            pollInterval := p, debounceWindow := q, errLimit := l }
      else none) ∧
  (∀ r : Cfg, presentedCfg (.record r) = some r →
    presentedCfg (.packed (packCfg0 r) r.pollInterval r.debounceWindow r.errLimit) = some r) ∧
  (∀ (w : Byte) (p q l : Nat), w.toNat % 4 = 3 ∨ 16 ≤ w.toNat ∨ p = 0 ∨ l = 0 →
    presentedCfg (.packed w p q l) = none) ∧
  (∀ (w : Byte) (p q l : Nat) (r : Cfg), presentedCfg (.packed w p q l) = some r →
    packCfg0 r = w ∧ r.pollInterval = p ∧ r.debounceWindow = q ∧ r.errLimit = l)

/-- Rule R171: `RDSTEPS` is the word 0x40; it returns the detents and zeroes them, or answers `NOT_READY` and drains
nothing; in a disabled block that meets the invariant it returns 0 and changes nothing. -/
def Obligations.StepsDrain : Prop :=
  (∀ w : Byte, decodeE8 w = .ok .rdsteps ↔ w = 0x40#8) ∧
  ∀ s : State,
    ((s.mode = .running ∨ s.mode = .disabled) ∧ s.stopFlag = false →
      exec .rdsteps s =
        .next { s with steps := 0, observed := { status := .ok, value := some (.steps s.steps) } :: s.observed }) ∧
    (¬((s.mode = .running ∨ s.mode = .disabled) ∧ s.stopFlag = false) →
      exec .rdsteps s = .next { s with observed := { status := .notReady, value := none } :: s.observed }) ∧
    (s.Inv → s.mode = .disabled →
      exec .rdsteps s = .next { s with observed := { status := .ok, value := some (.steps 0) } :: s.observed })

/-- Rule R172: `RDPRESS` is the word 0x60; it returns the latch and clears it, and does not touch `press_blocked`, or
answers `NOT_READY` and drains nothing; in a disabled block that meets the invariant it returns 0 and changes
nothing. -/
def Obligations.PressDrain : Prop :=
  (∀ w : Byte, decodeE8 w = .ok .rdpress ↔ w = 0x60#8) ∧
  ∀ s : State,
    ((s.mode = .running ∨ s.mode = .disabled) ∧ s.stopFlag = false →
      exec .rdpress s =
        .next { s with
                pressLatch := false, observed := { status := .ok, value := some (.press s.pressLatch) } :: s.observed }) ∧
    (¬((s.mode = .running ∨ s.mode = .disabled) ∧ s.stopFlag = false) →
      exec .rdpress s = .next { s with observed := { status := .notReady, value := none } :: s.observed }) ∧
    (s.Inv → s.mode = .disabled →
      exec .rdpress s = .next { s with observed := { status := .ok, value := some (.press false) } :: s.observed })

/-- Rule R173: `CLOSE` in every mode. What a `CLOSE` that stops the block leaves in the eight counters is unspecified
(rules R37 and R221) and is left open here. -/
def Obligations.CloseEffect : Prop :=
  ∀ s : State,
    (s.mode = .running →
      exec .close s =
        .next { s with
                stopFlag := true, linesOpen := false, observed := { status := .ok, value := none } :: s.observed }) ∧
    (s.mode = .disabled →
      ∃ t, exec .close s = .next t ∧
        agreeButCounters
          { s with
            stopFlag := true, mode := .stopped, linesOpen := false
            observed := { status := .ok, value := none } :: s.observed } t) ∧
    (s.mode = .idle ∨ s.mode = .stopped →
      exec .close s =
        .next { s with linesOpen := false, observed := { status := .ok, value := none } :: s.observed })

/-- Rules R106 and R173: after a `CLOSE` of a running block one tick, whatever its sample, reaches `STOPPED`; in the
meantime the drains answer `NOT_READY`. -/
def Obligations.CloseStopsAtNextTick : Prop :=
  ∀ (s t : State) (e c d b : Bool),
    s.mode = .running → s.params.timeW = none → exec .close s = .next t →
    exec .rdsteps t = .next { t with observed := { status := .notReady, value := none } :: t.observed } ∧
    exec .rdpress t = .next { t with observed := { status := .notReady, value := none } :: t.observed } ∧
    ∃ u, exec (.poll e c d b) t = .next u ∧ u.mode = .stopped

/-- Rule R173: `CLOSE` is idempotent: repeated, it changes nothing and answers `OK`. -/
def Obligations.CloseIsIdempotent : Prop :=
  ∀ s t : State, exec .close s = .next t →
    exec .close t = .next { t with observed := { status := .ok, value := none } :: t.observed }

/-- Rule R174: `RDSTAT` is the word 0xA0; in every mode it answers `OK` with `mode` in bits 1:0 and `stop_flag` in bit
2, and has no other effect. -/
def Obligations.StatusWordRead : Prop :=
  (∀ w : Byte, decodeE8 w = .ok .rdstat ↔ w = 0xA0#8) ∧
  ∀ s : State, ∃ w : BitVec 3,
    exec .rdstat s = .next { s with observed := { status := .ok, value := some (.stat w) } :: s.observed } ∧
    w.toNat = (if s.stopFlag then 4 else 0) +
      (match s.mode with | .idle => 0 | .running => 1 | .disabled => 2 | .stopped => 3)

/-- Rules R174 and R176, what they derive from R29 and R30: in a state that meets the invariant `RDSTAT` answers 0, 1,
2, 5 or 7, and in each mode the one of its row of the admission table. -/
def Obligations.StatusWordValues : Prop :=
  ∀ s t : State, s.Inv → exec .rdstat s = .next t →
    ∃ w : BitVec 3, t.observed = { status := .ok, value := some (.stat w) } :: s.observed ∧
      (s.mode = .idle → w = 0) ∧ (s.mode = .running → s.stopFlag = false → w = 1) ∧
      (s.mode = .running → s.stopFlag = true → w = 5) ∧ (s.mode = .disabled → w = 2) ∧ (s.mode = .stopped → w = 7)

/-- Rules R55 and R171, R172: a second drain straight after a first returns 0. -/
def Obligations.SecondDrainIsEmpty : Prop :=
  ∀ s t u : State, s.mode = .running → s.stopFlag = false →
    (exec .rdsteps s = .next t → exec .rdsteps t = .next u →
      u.observed = { status := .ok, value := some (.steps 0) } ::
        { status := .ok, value := some (.steps s.steps) } :: s.observed) ∧
    (exec .rdpress s = .next t → exec .rdpress t = .next u →
      u.observed = { status := .ok, value := some (.press false) } ::
        { status := .ok, value := some (.press s.pressLatch) } :: s.observed)

/-- Rules R59 and R199: what a host command answers does not depend on the sampler's private state, and no host
command but an accepted `START` changes that state. -/
def Obligations.HostCannotReadPrivateState : Prop :=
  ∀ (i : Instr) (s t s' : State),
    (i = .rdsteps ∨ i = .rdpress ∨ i = .close ∨ i = .rdstat ∨ ∃ e c d b, i = .start e c d b) →
    agreeButPrivate s t → exec i s = .next s' →
    ∃ t', exec i t = .next t' ∧ t'.observed = s'.observed ∧ agreeButPrivate s' t' ∧
      ((∀ e c d b, i ≠ .start e c d b) →
        agreeButPrivate s' { s with steps := s'.steps, pressLatch := s'.pressLatch, stopFlag := s'.stopFlag
                                    mode := s'.mode, linesOpen := s'.linesOpen, observed := s'.observed } ∧
        s'.accum = s.accum ∧ s'.prevState = s.prevState ∧ s'.lastButtonLevel = s.lastButtonLevel ∧
        s'.lastButtonChangeTime = s.lastButtonChangeTime ∧ s'.pressBlocked = s.pressBlocked ∧
        s'.errCount = s.errCount)

/-! ### The burst reader -/

/-- Rule R175: with the default unbounded widths `BURST` never fails: it puts `2 * N_SAMPLES` responses before the
host and returns the sum of the detents and the or of the presses in them. -/
def Obligations.BurstSumsItsResponses : Prop :=
  ∀ s : State, s.params.stepsW = none → s.params.timeW = none →
    ∃ t new, exec .burst s = .next t ∧ t.observed = new ++ s.observed ∧ new.length = 2 * s.params.nSamples ∧
      t.burstResult = some (drainedSum new, pressSeen new)

/-- Rule R175: on a block whose drains are closed (`IDLE`, closing, `STOPPED`) and on a `DISABLED` block, a burst
returns `(0, false)`. -/
def Obligations.BurstOnDeadBlockIsEmpty : Prop :=
  ∀ s t : State,
    (¬((s.mode = .running ∨ s.mode = .disabled) ∧ s.stopFlag = false)) ∨ (s.mode = .disabled ∧ s.Inv) →
    exec .burst s = .next t → t.burstResult = some (0, false)

/-- Rule R175: a burst with no wait in time and no tick between its commands returns what the two cells held, and
leaves them 0; with `N_SAMPLES` = 0 it returns `(0, false)` without touching the block. That no tick falls between
two commands is a choice of the environment in `turns` (log entry 9). -/
def Obligations.BurstWithoutTicks : Prop :=
  ∀ s : State,
    (s.params.nSamples = 0 → exec .burst s = .next { s with burstResult := some (0, false) }) ∧
    (0 < s.params.nSamples → s.params.interSampleDelay = 0 → s.turns = [] →
      (s.mode = .running ∨ s.mode = .disabled) ∧ s.stopFlag = false →
      ∃ t, exec .burst s = .next t ∧ t.burstResult = some (s.steps, s.pressLatch) ∧
        t = { s with steps := 0, pressLatch := false, observed := t.observed, burstResult := t.burstResult })

/-- Rules R83, R60 a and R227: a burst of `n` pairs takes `n - 1` waits of `floor` or `ceil` of `delay / POLL_INTERVAL`
ticks, and a tick may fall inside each pair. Each of these is one choice of the environment in `turns` (log entry 9):
one for each pair and, where the delay is no multiple of the tick period, one for each wait. The burst uses up exactly
those choices, and each that is true is one tick more than the floors; whole periods and no true choice give the
delays themselves. -/
def Obligations.BurstWaitsTakeTime : Prop :=
  ∀ s t : State, exec .burst s = .next t →
    let n := s.params.nSamples
    let delay := s.params.interSampleDelay
    let p := tickInterval s
    let choices := s.turns.take (if delay % p = 0 then n else n + (n - 1))
    t.now = s.now + ((n - 1) * (delay / p) + choices.count true) * p ∧
    t.turns = s.turns.drop choices.length ∧
    s.now + (n - 1) * (delay / p) * p ≤ t.now ∧
    t.now ≤ s.now + ((n - 1) * ((delay + p - 1) / p) + n) * p ∧
    (delay % p = 0 → (∀ x ∈ s.turns, x = false) → t.now = s.now + (n - 1) * delay)

/-- Rules R83 and R199: a burst leaves the configuration, the parameters, the stop flag and the lines alone. That a tick
inside a burst takes its sample from the stream, where the next entry is a `POLL` word, is the model's choice (log
entry 10): a burst takes from the stream nothing but such words. -/
def Obligations.BurstFrame : Prop :=
  ∀ s t : State, exec .burst s = .next t →
    t.cfg = s.cfg ∧ t.cfgIn = s.cfgIn ∧ t.params = s.params ∧ t.stopFlag = s.stopFlag ∧ t.linesOpen = s.linesOpen ∧
    ∃ ticks, s.inputs = ticks ++ t.inputs ∧ ∀ x ∈ ticks, ∃ w e c d b, x = .event w ∧ decodeE8 w = .ok (.poll e c d b)

/-! ### Invariants and whole-machine rules -/

/-- Rule R37: the power-on state meets the invariant. -/
def Obligations.InvariantAtReset : Prop := State.reset.Inv

/-- Rules R22, R26 to R28, R31, R33, R35, R176 and R192: every step keeps the invariant. -/
def Obligations.StepKeepsInvariant : Prop :=
  ∀ s t : State, s.Inv → step s = .next t → t.Inv

/-- Rules R195 and R206: with the default unbounded widths every step answers a next state; a fault needs a finite
width, and no step is refused. -/
def Obligations.StepAlwaysAnswers : Prop :=
  ∀ s : State,
    (s.params.stepsW = none → s.params.timeW = none → ∃ t, step s = .next t) ∧
    (step s = .fault .stepsOverflow → s.params.stepsW ≠ none) ∧
    (step s = .fault .timeWrap → s.params.timeW ≠ none) ∧
    (∀ r, step s ≠ .refused r)

/-- Rule R30: the transitions of `mode`, and no others. -/
def Obligations.ModeTransitions : Prop :=
  ∀ s t : State, step s = .next t →
    t.mode = s.mode ∨ (s.mode = .idle ∧ t.mode = .running) ∨ (s.mode = .stopped ∧ t.mode = .running) ∨
    (s.mode = .running ∧ t.mode = .disabled) ∨ (s.mode = .running ∧ t.mode = .stopped) ∨
    (s.mode = .disabled ∧ t.mode = .stopped)

/-- Rule R193, with R104, R176 and R192: in a disabled block only `CLOSE` changes `mode`, and each response is a drain
that returned zero, the status word 2, `BUSY` or `BAD_CMD`: every drain returns zero, and none is `NOT_READY`. -/
def Obligations.DisabledUntilClose : Prop :=
  ∀ (k : Nat) (s t : State), s.Inv → s.mode = .disabled →
    (∀ w, .event w ∈ s.inputs → decodeE8 w ≠ .ok .close) → runSteps k s = some t →
    t.mode = .disabled ∧
    ∃ new, t.observed = new ++ s.observed ∧
      ∀ r ∈ new,
        r = { status := .ok, value := some (.steps 0) } ∨ r = { status := .ok, value := some (.press false) } ∨
        r = { status := .ok, value := some (.stat 2) } ∨ r = { status := .busy, value := none } ∨
        r = { status := .badCmd, value := none }

/-- Rules R32 and R105: no step takes time back, and a host command takes no time. -/
def Obligations.TimeNeverGoesBack : Prop :=
  (∀ s t : State, step s = .next t → s.now ≤ t.now) ∧
  (∀ (i : Instr) (s t : State),
    (i = .rdsteps ∨ i = .rdpress ∨ i = .close ∨ i = .rdstat ∨ ∃ e c d b, i = .start e c d b) →
    exec i s = .next t → t.now = s.now)

/-- Rule R36: while the block runs, the drained detents and those in the cell, times `PPR`, with `accum`, account for
every transition decoded: none is lost and none is counted twice. -/
def Obligations.TransitionsConserved : Prop :=
  ∀ (k : Nat) (s : State), keepsRunning k s →
    ∃ t new, runSteps k s = some t ∧ t.observed = new ++ s.observed ∧
      (drainedSum new + t.steps) * s.cfg.ppr + t.accum = s.steps * s.cfg.ppr + s.accum + runDelta k s

/-- Rule R141: from `accum` = 0 and `steps` = 0, polls whose deltas sum to 0 leave `accum` = 0, and what was drained
with what is still in `steps` sums to 0. -/
def Obligations.OppositeSequencesCancel : Prop :=
  ∀ (k : Nat) (s : State), s.Inv → keepsRunning k s → s.accum = 0 → s.steps = 0 → runDelta k s = 0 →
    ∃ t new, runSteps k s = some t ∧ t.observed = new ++ s.observed ∧ t.accum = 0 ∧ drainedSum new + t.steps = 0

/-- Rule R142: from `accum` = 0 and `steps` = 0, the detents reported are the floor or the ceiling of `T / PPR`. -/
def Obligations.ReportedIsFloorOrCeil : Prop :=
  ∀ (k : Nat) (s : State), s.Inv → keepsRunning k s → s.accum = 0 → s.steps = 0 →
    ∃ t new, runSteps k s = some t ∧ t.observed = new ++ s.observed ∧
      (drainedSum new + t.steps = runDelta k s / s.cfg.ppr ∨
        drainedSum new + t.steps = -(-(runDelta k s) / s.cfg.ppr))

/-- Rules R37 and R221 (93_implementation_defined.md U5): what the counters hold in `IDLE` and `STOPPED` is never
observed: from two such states that differ in the counters alone, every run answers the same, and what is left of the
difference is again in the counters alone; once the block runs again there is none. -/
def Obligations.DestroyedCountersUnobserved : Prop :=
  ∀ (k : Nat) (s t s' : State), s.mode = .idle ∨ s.mode = .stopped → agreeButCounters s t → runSteps k s = some s' →
    ∃ t', runSteps k t = some t' ∧ t'.observed = s'.observed ∧ agreeButCounters s' t' ∧ (s'.mode = .running → t' = s')

/-- Rules R8 and R143 (95_test_vectors.md Part 4, 10): with `STEPS_W` unbounded, negating `DIR` negates `accum`,
`steps` and every drained value along every step, and changes nothing else. -/
def Obligations.SignSymmetry : Prop :=
  ∀ s : State, s.params.stepsW = none →
    step s.mirror =
      match step s with
      | .next t => .next t.mirror
      | .fault f => .fault f
      | .refused r => .refused r

/-- Rules R60 a, R83, R175 and R227: a tick that falls inside the one pair of a burst falls after its `RDSTEPS` and
before its `RDPRESS`: the burst leaves what the three events in this order leave, and returns what the two drains
answered. That the tick is a true choice in `turns`, and its sample the next entry of the stream, are the model's
choices (log entries 9 and 10). -/
def Obligations.BurstTickInsidePair : Prop :=
  ∀ (s t u v : State) (w : Byte) (e c d b : Bool) (rest : List Input) (choices : List Bool),
    s.params.nSamples = 1 → s.turns = true :: choices → s.inputs = .event w :: rest →
    decodeE8 w = .ok (.poll e c d b) →
    exec .rdsteps s = .next t → exec (.poll e c d b) t = .next u → exec .rdpress u = .next v →
    ∃ r q, v.observed = q :: r :: s.observed ∧
      exec .burst s =
        .next { v with inputs := rest, turns := choices, burstResult := some (rspSteps r, rspPress q) }
end

