-- ==== Sys2Proof/Laws/State.lean ====
section
/-! SUPPORT. One lemma per field per update of the state. -/

namespace Sys2Proof.Machine

@[simp] theorem respond_accum (st : Status) (v : Option RspValue) (s : State) : (respond st v s).accum = s.accum := rfl
@[simp] theorem respond_steps (st : Status) (v : Option RspValue) (s : State) : (respond st v s).steps = s.steps := rfl
@[simp] theorem respond_prevState (st : Status) (v : Option RspValue) (s : State) : (respond st v s).prevState = s.prevState := rfl
@[simp] theorem respond_pressLatch (st : Status) (v : Option RspValue) (s : State) : (respond st v s).pressLatch = s.pressLatch := rfl
@[simp] theorem respond_lastButtonLevel (st : Status) (v : Option RspValue) (s : State) : (respond st v s).lastButtonLevel = s.lastButtonLevel := rfl
@[simp] theorem respond_lastButtonChangeTime (st : Status) (v : Option RspValue) (s : State) : (respond st v s).lastButtonChangeTime = s.lastButtonChangeTime := rfl
@[simp] theorem respond_pressBlocked (st : Status) (v : Option RspValue) (s : State) : (respond st v s).pressBlocked = s.pressBlocked := rfl
@[simp] theorem respond_errCount (st : Status) (v : Option RspValue) (s : State) : (respond st v s).errCount = s.errCount := rfl
@[simp] theorem respond_stopFlag (st : Status) (v : Option RspValue) (s : State) : (respond st v s).stopFlag = s.stopFlag := rfl
@[simp] theorem respond_mode (st : Status) (v : Option RspValue) (s : State) : (respond st v s).mode = s.mode := rfl
@[simp] theorem respond_linesOpen (st : Status) (v : Option RspValue) (s : State) : (respond st v s).linesOpen = s.linesOpen := rfl
@[simp] theorem respond_now (st : Status) (v : Option RspValue) (s : State) : (respond st v s).now = s.now := rfl
@[simp] theorem respond_cfg (st : Status) (v : Option RspValue) (s : State) : (respond st v s).cfg = s.cfg := rfl
@[simp] theorem respond_cfgIn (st : Status) (v : Option RspValue) (s : State) : (respond st v s).cfgIn = s.cfgIn := rfl
@[simp] theorem respond_params (st : Status) (v : Option RspValue) (s : State) : (respond st v s).params = s.params := rfl
@[simp] theorem respond_inputs (st : Status) (v : Option RspValue) (s : State) : (respond st v s).inputs = s.inputs := rfl
@[simp] theorem respond_turns (st : Status) (v : Option RspValue) (s : State) : (respond st v s).turns = s.turns := rfl
@[simp] theorem respond_draws (st : Status) (v : Option RspValue) (s : State) : (respond st v s).draws = s.draws := rfl
@[simp] theorem respond_observed (st : Status) (v : Option RspValue) (s : State) : (respond st v s).observed = { status := st, value := v } :: s.observed := rfl
@[simp] theorem respond_burstResult (st : Status) (v : Option RspValue) (s : State) : (respond st v s).burstResult = s.burstResult := rfl

@[simp] theorem presentCfg_accum (c : CfgIn) (s : State) : (presentCfg c s).accum = s.accum := rfl
@[simp] theorem presentCfg_steps (c : CfgIn) (s : State) : (presentCfg c s).steps = s.steps := rfl
@[simp] theorem presentCfg_prevState (c : CfgIn) (s : State) : (presentCfg c s).prevState = s.prevState := rfl
@[simp] theorem presentCfg_pressLatch (c : CfgIn) (s : State) : (presentCfg c s).pressLatch = s.pressLatch := rfl
@[simp] theorem presentCfg_lastButtonLevel (c : CfgIn) (s : State) : (presentCfg c s).lastButtonLevel = s.lastButtonLevel := rfl
@[simp] theorem presentCfg_lastButtonChangeTime (c : CfgIn) (s : State) : (presentCfg c s).lastButtonChangeTime = s.lastButtonChangeTime := rfl
@[simp] theorem presentCfg_pressBlocked (c : CfgIn) (s : State) : (presentCfg c s).pressBlocked = s.pressBlocked := rfl
@[simp] theorem presentCfg_errCount (c : CfgIn) (s : State) : (presentCfg c s).errCount = s.errCount := rfl
@[simp] theorem presentCfg_stopFlag (c : CfgIn) (s : State) : (presentCfg c s).stopFlag = s.stopFlag := rfl
@[simp] theorem presentCfg_mode (c : CfgIn) (s : State) : (presentCfg c s).mode = s.mode := rfl
@[simp] theorem presentCfg_linesOpen (c : CfgIn) (s : State) : (presentCfg c s).linesOpen = s.linesOpen := rfl
@[simp] theorem presentCfg_now (c : CfgIn) (s : State) : (presentCfg c s).now = s.now := rfl
@[simp] theorem presentCfg_cfg (c : CfgIn) (s : State) : (presentCfg c s).cfg = s.cfg := rfl
@[simp] theorem presentCfg_cfgIn (c : CfgIn) (s : State) : (presentCfg c s).cfgIn = c := rfl
@[simp] theorem presentCfg_params (c : CfgIn) (s : State) : (presentCfg c s).params = s.params := rfl
@[simp] theorem presentCfg_inputs (c : CfgIn) (s : State) : (presentCfg c s).inputs = s.inputs := rfl
@[simp] theorem presentCfg_turns (c : CfgIn) (s : State) : (presentCfg c s).turns = s.turns := rfl
@[simp] theorem presentCfg_draws (c : CfgIn) (s : State) : (presentCfg c s).draws = s.draws := rfl
@[simp] theorem presentCfg_observed (c : CfgIn) (s : State) : (presentCfg c s).observed = s.observed := rfl
@[simp] theorem presentCfg_burstResult (c : CfgIn) (s : State) : (presentCfg c s).burstResult = s.burstResult := rfl

@[simp] theorem countError_accum (e : Bool) (s : State) : (countError e s).accum = s.accum := rfl
@[simp] theorem countError_steps (e : Bool) (s : State) : (countError e s).steps = s.steps := rfl
@[simp] theorem countError_prevState (e : Bool) (s : State) : (countError e s).prevState = s.prevState := rfl
@[simp] theorem countError_pressLatch (e : Bool) (s : State) : (countError e s).pressLatch = s.pressLatch := rfl
@[simp] theorem countError_lastButtonLevel (e : Bool) (s : State) : (countError e s).lastButtonLevel = s.lastButtonLevel := rfl
@[simp] theorem countError_lastButtonChangeTime (e : Bool) (s : State) : (countError e s).lastButtonChangeTime = s.lastButtonChangeTime := rfl
@[simp] theorem countError_pressBlocked (e : Bool) (s : State) : (countError e s).pressBlocked = s.pressBlocked := rfl
@[simp] theorem countError_errCount (e : Bool) (s : State) : (countError e s).errCount = if e then s.errCount + 1 else 0 := rfl
@[simp] theorem countError_stopFlag (e : Bool) (s : State) : (countError e s).stopFlag = s.stopFlag := rfl
@[simp] theorem countError_mode (e : Bool) (s : State) : (countError e s).mode = s.mode := rfl
@[simp] theorem countError_linesOpen (e : Bool) (s : State) : (countError e s).linesOpen = s.linesOpen := rfl
@[simp] theorem countError_now (e : Bool) (s : State) : (countError e s).now = s.now := rfl
@[simp] theorem countError_cfg (e : Bool) (s : State) : (countError e s).cfg = s.cfg := rfl
@[simp] theorem countError_cfgIn (e : Bool) (s : State) : (countError e s).cfgIn = s.cfgIn := rfl
@[simp] theorem countError_params (e : Bool) (s : State) : (countError e s).params = s.params := rfl
@[simp] theorem countError_inputs (e : Bool) (s : State) : (countError e s).inputs = s.inputs := rfl
@[simp] theorem countError_turns (e : Bool) (s : State) : (countError e s).turns = s.turns := rfl
@[simp] theorem countError_draws (e : Bool) (s : State) : (countError e s).draws = s.draws := rfl
@[simp] theorem countError_observed (e : Bool) (s : State) : (countError e s).observed = s.observed := rfl
@[simp] theorem countError_burstResult (e : Bool) (s : State) : (countError e s).burstResult = s.burstResult := rfl

@[simp] theorem softDisable_accum (s : State) : (softDisable s).accum = s.accum := rfl
@[simp] theorem softDisable_steps (s : State) : (softDisable s).steps = 0 := rfl
@[simp] theorem softDisable_prevState (s : State) : (softDisable s).prevState = s.prevState := rfl
@[simp] theorem softDisable_pressLatch (s : State) : (softDisable s).pressLatch = false := rfl
@[simp] theorem softDisable_lastButtonLevel (s : State) : (softDisable s).lastButtonLevel = s.lastButtonLevel := rfl
@[simp] theorem softDisable_lastButtonChangeTime (s : State) : (softDisable s).lastButtonChangeTime = s.lastButtonChangeTime := rfl
@[simp] theorem softDisable_pressBlocked (s : State) : (softDisable s).pressBlocked = s.pressBlocked := rfl
@[simp] theorem softDisable_errCount (s : State) : (softDisable s).errCount = s.errCount := rfl
@[simp] theorem softDisable_stopFlag (s : State) : (softDisable s).stopFlag = s.stopFlag := rfl
@[simp] theorem softDisable_mode (s : State) : (softDisable s).mode = .disabled := rfl
@[simp] theorem softDisable_linesOpen (s : State) : (softDisable s).linesOpen = s.linesOpen := rfl
@[simp] theorem softDisable_now (s : State) : (softDisable s).now = s.now := rfl
@[simp] theorem softDisable_cfg (s : State) : (softDisable s).cfg = s.cfg := rfl
@[simp] theorem softDisable_cfgIn (s : State) : (softDisable s).cfgIn = s.cfgIn := rfl
@[simp] theorem softDisable_params (s : State) : (softDisable s).params = s.params := rfl
@[simp] theorem softDisable_inputs (s : State) : (softDisable s).inputs = s.inputs := rfl
@[simp] theorem softDisable_turns (s : State) : (softDisable s).turns = s.turns := rfl
@[simp] theorem softDisable_draws (s : State) : (softDisable s).draws = s.draws := rfl
@[simp] theorem softDisable_observed (s : State) : (softDisable s).observed = s.observed := rfl
@[simp] theorem softDisable_burstResult (s : State) : (softDisable s).burstResult = s.burstResult := rfl

@[simp] theorem stopSampler_accum (s : State) : (stopSampler s).accum = s.accum := rfl
@[simp] theorem stopSampler_steps (s : State) : (stopSampler s).steps = s.steps := rfl
@[simp] theorem stopSampler_prevState (s : State) : (stopSampler s).prevState = s.prevState := rfl
@[simp] theorem stopSampler_pressLatch (s : State) : (stopSampler s).pressLatch = s.pressLatch := rfl
@[simp] theorem stopSampler_lastButtonLevel (s : State) : (stopSampler s).lastButtonLevel = s.lastButtonLevel := rfl
@[simp] theorem stopSampler_lastButtonChangeTime (s : State) : (stopSampler s).lastButtonChangeTime = s.lastButtonChangeTime := rfl
@[simp] theorem stopSampler_pressBlocked (s : State) : (stopSampler s).pressBlocked = s.pressBlocked := rfl
@[simp] theorem stopSampler_errCount (s : State) : (stopSampler s).errCount = s.errCount := rfl
@[simp] theorem stopSampler_stopFlag (s : State) : (stopSampler s).stopFlag = s.stopFlag := rfl
@[simp] theorem stopSampler_mode (s : State) : (stopSampler s).mode = .stopped := rfl
@[simp] theorem stopSampler_linesOpen (s : State) : (stopSampler s).linesOpen = s.linesOpen := rfl
@[simp] theorem stopSampler_now (s : State) : (stopSampler s).now = s.now := rfl
@[simp] theorem stopSampler_cfg (s : State) : (stopSampler s).cfg = s.cfg := rfl
@[simp] theorem stopSampler_cfgIn (s : State) : (stopSampler s).cfgIn = s.cfgIn := rfl
@[simp] theorem stopSampler_params (s : State) : (stopSampler s).params = s.params := rfl
@[simp] theorem stopSampler_inputs (s : State) : (stopSampler s).inputs = s.inputs := rfl
@[simp] theorem stopSampler_turns (s : State) : (stopSampler s).turns = s.turns := rfl
@[simp] theorem stopSampler_draws (s : State) : (stopSampler s).draws = s.draws := rfl
@[simp] theorem stopSampler_observed (s : State) : (stopSampler s).observed = s.observed := rfl
@[simp] theorem stopSampler_burstResult (s : State) : (stopSampler s).burstResult = s.burstResult := rfl

@[simp] theorem applyRow_accum (i : Nibble) (s : State) : (applyRow i s).accum = s.accum + s.cfg.dir * tt i := rfl
@[simp] theorem applyRow_steps (i : Nibble) (s : State) : (applyRow i s).steps = s.steps := rfl
@[simp] theorem applyRow_prevState (i : Nibble) (s : State) : (applyRow i s).prevState = indexNew i := rfl
@[simp] theorem applyRow_pressLatch (i : Nibble) (s : State) : (applyRow i s).pressLatch = s.pressLatch := rfl
@[simp] theorem applyRow_lastButtonLevel (i : Nibble) (s : State) : (applyRow i s).lastButtonLevel = s.lastButtonLevel := rfl
@[simp] theorem applyRow_lastButtonChangeTime (i : Nibble) (s : State) : (applyRow i s).lastButtonChangeTime = s.lastButtonChangeTime := rfl
@[simp] theorem applyRow_pressBlocked (i : Nibble) (s : State) : (applyRow i s).pressBlocked = s.pressBlocked := rfl
@[simp] theorem applyRow_errCount (i : Nibble) (s : State) : (applyRow i s).errCount = s.errCount := rfl
@[simp] theorem applyRow_stopFlag (i : Nibble) (s : State) : (applyRow i s).stopFlag = s.stopFlag := rfl
@[simp] theorem applyRow_mode (i : Nibble) (s : State) : (applyRow i s).mode = s.mode := rfl
@[simp] theorem applyRow_linesOpen (i : Nibble) (s : State) : (applyRow i s).linesOpen = s.linesOpen := rfl
@[simp] theorem applyRow_now (i : Nibble) (s : State) : (applyRow i s).now = s.now := rfl
@[simp] theorem applyRow_cfg (i : Nibble) (s : State) : (applyRow i s).cfg = s.cfg := rfl
@[simp] theorem applyRow_cfgIn (i : Nibble) (s : State) : (applyRow i s).cfgIn = s.cfgIn := rfl
@[simp] theorem applyRow_params (i : Nibble) (s : State) : (applyRow i s).params = s.params := rfl
@[simp] theorem applyRow_inputs (i : Nibble) (s : State) : (applyRow i s).inputs = s.inputs := rfl
@[simp] theorem applyRow_turns (i : Nibble) (s : State) : (applyRow i s).turns = s.turns := rfl
@[simp] theorem applyRow_draws (i : Nibble) (s : State) : (applyRow i s).draws = s.draws := rfl
@[simp] theorem applyRow_observed (i : Nibble) (s : State) : (applyRow i s).observed = s.observed := rfl
@[simp] theorem applyRow_burstResult (i : Nibble) (s : State) : (applyRow i s).burstResult = s.burstResult := rfl

@[simp] theorem startWith_accum (c : Cfg) (l : Levels) (s : State) : (startWith c l s).accum = 0 := rfl
@[simp] theorem startWith_steps (c : Cfg) (l : Levels) (s : State) : (startWith c l s).steps = 0 := rfl
@[simp] theorem startWith_prevState (c : Cfg) (l : Levels) (s : State) : (startWith c l s).prevState = packState l.clk l.dt := rfl
@[simp] theorem startWith_pressLatch (c : Cfg) (l : Levels) (s : State) : (startWith c l s).pressLatch = false := rfl
@[simp] theorem startWith_lastButtonLevel (c : Cfg) (l : Levels) (s : State) : (startWith c l s).lastButtonLevel = l.sw := rfl
@[simp] theorem startWith_lastButtonChangeTime (c : Cfg) (l : Levels) (s : State) : (startWith c l s).lastButtonChangeTime = s.now := rfl
@[simp] theorem startWith_pressBlocked (c : Cfg) (l : Levels) (s : State) : (startWith c l s).pressBlocked = false := rfl
@[simp] theorem startWith_errCount (c : Cfg) (l : Levels) (s : State) : (startWith c l s).errCount = 0 := rfl
@[simp] theorem startWith_stopFlag (c : Cfg) (l : Levels) (s : State) : (startWith c l s).stopFlag = false := rfl
@[simp] theorem startWith_mode (c : Cfg) (l : Levels) (s : State) : (startWith c l s).mode = .running := rfl
@[simp] theorem startWith_linesOpen (c : Cfg) (l : Levels) (s : State) : (startWith c l s).linesOpen = true := rfl
@[simp] theorem startWith_now (c : Cfg) (l : Levels) (s : State) : (startWith c l s).now = s.now := rfl
@[simp] theorem startWith_cfg (c : Cfg) (l : Levels) (s : State) : (startWith c l s).cfg = c := rfl
@[simp] theorem startWith_cfgIn (c : Cfg) (l : Levels) (s : State) : (startWith c l s).cfgIn = s.cfgIn := rfl
@[simp] theorem startWith_params (c : Cfg) (l : Levels) (s : State) : (startWith c l s).params = s.params := rfl
@[simp] theorem startWith_inputs (c : Cfg) (l : Levels) (s : State) : (startWith c l s).inputs = s.inputs := rfl
@[simp] theorem startWith_turns (c : Cfg) (l : Levels) (s : State) : (startWith c l s).turns = s.turns := rfl
@[simp] theorem startWith_draws (c : Cfg) (l : Levels) (s : State) : (startWith c l s).draws = s.draws := rfl
@[simp] theorem startWith_observed (c : Cfg) (l : Levels) (s : State) : (startWith c l s).observed = s.observed := rfl
@[simp] theorem startWith_burstResult (c : Cfg) (l : Levels) (s : State) : (startWith c l s).burstResult = s.burstResult := rfl

/-- The drain of `steps` writes no other element. -/
theorem drainSteps_state (s : State) :
    (drainSteps s).2 = { s with steps := if drainsOpen s then 0 else s.steps } := by
  unfold drainSteps; split <;> simp_all [xchgSteps]

/-- The drain of `press_latch` writes no other element. -/
theorem drainPress_state (s : State) :
    (drainPress s).2 = { s with pressLatch := if drainsOpen s then false else s.pressLatch } := by
  unfold drainPress; split <;> simp_all [xchgPressLatch]

/-- The response of the drain of `steps`. -/
theorem drainSteps_response (s : State) :
    (drainSteps s).1 =
      if drainsOpen s then { status := .ok, value := some (.steps s.steps) }
      else { status := .notReady, value := none } := by
  unfold drainSteps; split <;> rfl

/-- The response of the drain of `press_latch`. -/
theorem drainPress_response (s : State) :
    (drainPress s).1 =
      if drainsOpen s then { status := .ok, value := some (.press s.pressLatch) }
      else { status := .notReady, value := none } := by
  unfold drainPress; split <;> rfl

end Sys2Proof.Machine
end

