-- ==== Sys2Proof/Laws/Ops.lean ====
section
/-! SUPPORT. What each shared operation can do, said once: later proofs cite these lemmas and do not unfold the
operations. -/

namespace Sys2Proof.Machine

variable {s t : State} {e c d b : Bool}

/-- Time advances by one tick period, or the tick faults. -/
theorem advanceTime_ok (h : advanceTime s = .ok t) :
    timeFits s.params.timeW (s.now + tickInterval s) = true ∧ t = { s with now := s.now + tickInterval s } := by
  unfold advanceTime at h
  split at h
  · exact ⟨‹_›, by cases h; rfl⟩
  · cases h

theorem advanceTime_of_fits (h : timeFits s.params.timeW (s.now + tickInterval s) = true) :
    advanceTime s = .ok { s with now := s.now + tickInterval s } := by
  unfold advanceTime; rw [if_pos h]

theorem atomicAddSteps_ok {v : Int} (h : atomicAddSteps v s = .ok t) :
    stepsFits s.params.stepsW (s.steps + v) = true ∧ t = { s with steps := s.steps + v } := by
  unfold atomicAddSteps at h
  split at h
  · exact ⟨‹_›, by cases h; rfl⟩
  · cases h

@[simp] theorem stepsFits_none (v : Int) : stepsFits none v = true := rfl

@[simp] theorem timeFits_none (n : Nat) : timeFits none n = true := rfl

/-- A new time that fits a counter leaves every smaller time fitting it. -/
theorem timeFits_of_le {w : Option Nat} {m n : Nat} (h : timeFits w n = true) (hm : m ≤ n) : timeFits w m = true := by
  cases w with
  | none => rfl
  | some k => simp only [timeFits, decide_eq_true_eq] at h ⊢; omega

/-- An empty cell always fits. -/
theorem stepsFits_zero (w : Option Nat) : stepsFits w 0 = true := by
  cases w with
  | none => rfl
  | some k => simp [stepsFits]

/-- `DETENT` does nothing, or moves whole detents from `accum` to `steps`. -/
theorem detent_ok (h : detent s = .ok t) :
    ((s.accum.natAbs : Int) < s.cfg.ppr ∧ t = s) ∨
    (s.cfg.ppr ≤ (s.accum.natAbs : Int) ∧
      stepsFits s.params.stepsW (s.steps + trunc s.accum s.cfg.ppr) = true ∧
      t = { s with
            steps := s.steps + trunc s.accum s.cfg.ppr
            accum := s.accum - trunc s.accum s.cfg.ppr * s.cfg.ppr }) := by
  unfold detent at h
  split at h
  · rename_i hp
    split at h
    · rename_i u hu
      obtain ⟨hf, rfl⟩ := atomicAddSteps_ok hu
      exact .inr ⟨hp, hf, by cases h; rfl⟩
    · cases h
  · rename_i hp
    exact .inl ⟨by omega, by cases h; rfl⟩

/-- What `detent` answers where the sum fits. -/
theorem detent_of_fits
    (h : s.cfg.ppr ≤ (s.accum.natAbs : Int) → stepsFits s.params.stepsW (s.steps + trunc s.accum s.cfg.ppr) = true) :
    detent s = .ok (if s.cfg.ppr ≤ (s.accum.natAbs : Int) then
        { s with
          steps := s.steps + trunc s.accum s.cfg.ppr
          accum := s.accum - trunc s.accum s.cfg.ppr * s.cfg.ppr }
      else s) := by
  unfold detent
  split
  · rename_i hp; simp [atomicAddSteps, h hp]
  · rfl

/-- `DETENT` faults where the sum leaves a finite `STEPS_W`. -/
theorem detent_of_overflow (hp : s.cfg.ppr ≤ (s.accum.natAbs : Int))
    (hf : stepsFits s.params.stepsW (s.steps + trunc s.accum s.cfg.ppr) = false) :
    detent s = .error .stepsOverflow := by
  unfold detent; rw [if_pos hp]; unfold atomicAddSteps; rw [if_neg (by simp [hf])]

/-- Part 1 of `BTN`, element by element: an unchanged level leaves all of them. -/
theorem trackLevel_eq (sw : Bool) (s : State) :
    trackLevel sw s =
      { s with
        lastButtonLevel := sw
        lastButtonChangeTime := if sw = s.lastButtonLevel then s.lastButtonChangeTime else s.now
        pressBlocked := s.pressBlocked && !releaseEdge sw s } := by
  unfold trackLevel releaseEdge levelChanged
  by_cases h : sw = s.lastButtonLevel
  · subst h; simp
  · by_cases h2 : sw = s.cfg.activeLevel
    · rw [← h2]; simp [h]
    · simp [h, h2]

/-- Part 2 of `BTN`, element by element. -/
theorem latchPress_eq (sw : Bool) (s : State) :
    latchPress sw s =
      { s with
        pressLatch := s.pressLatch || latchDue sw s
        pressBlocked := s.pressBlocked || latchDue sw s } := by
  unfold latchPress xchgPressLatch
  cases h : latchDue sw s <;> simp

/-- The latch condition (rule R153), read on the state before the poll's button step. -/
def latchNow (sw : Bool) (s : State) : Bool :=
  sw == s.cfg.activeLevel && !(s.pressBlocked && !releaseEdge sw s)
    && decide (s.cfg.debounceWindow ≤ s.now - if sw = s.lastButtonLevel then s.lastButtonChangeTime else s.now)

theorem latchDue_trackLevel (sw : Bool) (s : State) : latchDue sw (trackLevel sw s) = latchNow sw s := by
  rw [trackLevel_eq]; rfl

/-- `BTN` writes the four button elements and nothing else. -/
theorem btn_eq (sw : Bool) (s : State) :
    btn sw s =
      { s with
        pressLatch := s.pressLatch || latchNow sw s
        lastButtonLevel := sw
        lastButtonChangeTime := if sw = s.lastButtonLevel then s.lastButtonChangeTime else s.now
        pressBlocked := (s.pressBlocked && !releaseEdge sw s) || latchNow sw s } := by
  unfold btn; rw [latchPress_eq, latchDue_trackLevel, trackLevel_eq]

/-- One poll iteration stops, disables, or decodes. -/
theorem pollIteration_ok (h : pollIteration e c d b s = .ok t) :
    (s.stopFlag = true ∧ t = stopSampler s) ∨
    (s.stopFlag = false ∧ errLimitHit e s = true ∧ t = softDisable (countError e s)) ∨
    (s.stopFlag = false ∧ errLimitHit e s = false ∧
      ∃ u, detent (qdec (sampleLevels e c d b).clk (sampleLevels e c d b).dt (countError e s)) = .ok u ∧
        t = btn (sampleLevels e c d b).sw u) := by
  unfold pollIteration at h
  split at h
  · exact .inl ⟨‹_›, by cases h; rfl⟩
  split at h
  · exact .inr (.inl ⟨by simp_all, ‹_›, by cases h; rfl⟩)
  · unfold decodeSample at h
    split at h
    · exact .inr (.inr ⟨by simp_all, by simp_all, _, ‹_›, by cases h; rfl⟩)
    · cases h

/-- An iteration with no stop pending and the error limit not reached decodes its sample. -/
theorem pollIteration_decodes (hs : s.stopFlag = false) (he : errLimitHit e s = false) :
    pollIteration e c d b s = decodeSample (sampleLevels e c d b) (countError e s) := by
  unfold pollIteration; rw [if_neg (by simp [hs]), if_neg (by simp [he])]

theorem pollIteration_stops (hs : s.stopFlag = true) : pollIteration e c d b s = .ok (stopSampler s) := by
  unfold pollIteration; rw [if_pos hs]

theorem pollIteration_disables (hs : s.stopFlag = false) (he : errLimitHit e s = true) :
    pollIteration e c d b s = .ok (softDisable (countError e s)) := by
  unfold pollIteration; rw [if_neg (by simp [hs]), if_pos he]

/-- The substituted levels (rule R102): an error reads as high. -/
theorem sampleLevels_eq (e c d b : Bool) : sampleLevels e c d b = { clk := e || c, dt := e || d, sw := e || b } := by
  cases e <;> rfl

/-- A table index is the previous state followed by the new one (rule R73). -/
theorem tableIndex_eq (p n : QState) : tableIndex p n = p ++ n := by revert p n; decide

/-- A packed state is the clock bit followed by the data bit (rule R72). -/
theorem packState_eq (c d : Bool) : packState c d = BitVec.ofBool c ++ BitVec.ofBool d := by revert c d; decide

theorem indexNew_append (p n : QState) : indexNew (p ++ n) = n := by revert p n; decide

theorem indexPrev_append (p n : QState) : indexPrev (p ++ n) = p := by revert p n; decide

/-- `QDEC` writes `accum` and `prev_state` (rule R120). -/
theorem qdec_eq (c d : Bool) (s : State) :
    qdec c d s =
      { s with
        accum := s.accum + s.cfg.dir * tt (s.prevState ++ (BitVec.ofBool c ++ BitVec.ofBool d))
        prevState := BitVec.ofBool c ++ BitVec.ofBool d } := by
  unfold qdec applyRow; rw [tableIndex_eq, packState_eq, indexNew_append]

/-- In every mode but `IDLE` the tick period is that of `cfg`. -/
theorem tickInterval_of_ne (h : s.mode ≠ .idle) : tickInterval s = s.cfg.pollInterval := by
  unfold tickInterval; split <;> simp_all

/-- A tick of a running block whose time fits is one iteration at the new time. -/
theorem pollTick_running (h : s.mode = .running)
    (hf : timeFits s.params.timeW (s.now + s.cfg.pollInterval) = true) :
    pollTick e c d b s = pollIteration e c d b { s with now := s.now + s.cfg.pollInterval } := by
  have hi : tickInterval s = s.cfg.pollInterval := tickInterval_of_ne (by simp [h])
  unfold pollTick
  rw [advanceTime_of_fits (by rw [hi]; exact hf)]
  simp [h, hi]

/-- One tick: time advances; outside `RUNNING` nothing else happens. -/
theorem pollTick_ok (h : pollTick e c d b s = .ok t) :
    timeFits s.params.timeW (s.now + tickInterval s) = true ∧
    ((s.mode ≠ .running ∧ t = { s with now := s.now + tickInterval s }) ∨
     (s.mode = .running ∧ pollIteration e c d b { s with now := s.now + tickInterval s } = .ok t)) := by
  unfold pollTick at h
  split at h
  · rename_i u hu
    obtain ⟨hf, rfl⟩ := advanceTime_ok hu
    refine ⟨hf, ?_⟩
    split at h
    · exact .inr ⟨‹_›, h⟩
    · exact .inl ⟨‹_›, by cases h; rfl⟩
  · cases h

theorem outcomeOf_next {r : Except Fault State} (h : outcomeOf r = .next t) : r = .ok t := by
  cases r with
  | ok u => simp only [outcomeOf, Host.Outcome.next.injEq] at h; rw [h]
  | error f => simp [outcomeOf] at h

/-- An environment tick inside a `BURST` is one tick, after the stream or the count of free samples moved on. -/
theorem environmentTick_ok (h : environmentTick s = .ok t) :
    ∃ e c d b u, pollTick e c d b u = .ok t ∧
      ((∃ w rest, s.inputs = .event w :: rest ∧ decodeE8 w = .ok (.poll e c d b) ∧ u = { s with inputs := rest }) ∨
        u = { s with draws := s.draws + 1 }) := by
  unfold environmentTick at h
  split at h
  · rename_i w rest hi
    split at h
    · rename_i hd
      exact ⟨_, _, _, _, _, h, .inl ⟨w, rest, hi, hd, rfl⟩⟩
    · exact ⟨_, _, _, _, _, h, .inr rfl⟩
  · exact ⟨_, _, _, _, _, h, .inr rfl⟩

/-- A relation between states that composes, that one environment tick gives, holds across any number of them. -/
theorem runTicks_rel (R : State → State → Prop) (refl : ∀ s, R s s) (trans : ∀ s t u, R s t → R t u → R s u)
    (tick : ∀ s t, environmentTick s = .ok t → R s t) : ∀ n s t, runTicks n s = .ok t → R s t := by
  intro n
  induction n with
  | zero => intro s t h; cases h; exact refl _
  | succ n ih =>
    intro s t h
    unfold runTicks at h
    split at h
    · exact trans _ _ _ (tick _ _ ‹_›) (ih _ _ h)
    · cases h

/-- Taking one of the environment's choices writes `turns` alone. -/
theorem takeTurn_state (s : State) : (takeTurn s).2 = { s with turns := s.turns.tail } := by
  obtain ⟨_, _, _, _, _, _, _, _, _, _, _, _, _, _, _, _, l, _, _, _⟩ := s
  cases l <;> rfl

theorem waitTicks_state (s : State) : (waitTicks s).2 = s ∨ (waitTicks s).2 = { s with turns := s.turns.tail } := by
  unfold waitTicks
  simp only
  split
  · exact .inl rfl
  · exact .inr (takeTurn_state s)

/-- A composing relation that every piece of a `BURST` gives holds across the whole of its pairs. -/
theorem burstPairs_rel (R : State → State → Prop) (refl : ∀ s, R s s) (trans : ∀ s t u, R s t → R t u → R s u)
    (tick : ∀ s t, environmentTick s = .ok t → R s t)
    (turn : ∀ s l, R s { s with turns := l })
    (readSteps : ∀ s, R s (respond (drainSteps s).1.status (drainSteps s).1.value (drainSteps s).2))
    (readPress : ∀ s, R s (respond (drainPress s).1.status (drainPress s).1.value (drainPress s).2)) :
    ∀ n a s b t, burstPairs n a s = .ok (b, t) → R s t := by
  have pair : ∀ a s b t, burstPair a s = .ok (b, t) → R s t := by
    intro a s b t h
    unfold burstPair at h
    simp only at h
    split at h
    · rename_i u hu
      simp only [Except.ok.injEq, Prod.mk.injEq] at h
      obtain ⟨-, rfl⟩ := h
      unfold burstGap at hu
      have := runTicks_rel R refl trans tick _ _ _ hu
      rw [takeTurn_state] at this
      exact trans _ _ _ (readSteps s) (trans _ _ _ (turn _ _) (trans _ _ _ this (readPress u)))
    · cases h
  have wait : ∀ s t, burstWait s = .ok t → R s t := by
    intro s t h
    unfold burstWait at h
    have := runTicks_rel R refl trans tick _ _ _ h
    rcases waitTicks_state s with hw | hw <;> rw [hw] at this
    · exact this
    · exact trans _ _ _ (turn _ _) this
  intro n
  induction n with
  | zero => intro a s b t h; simp only [burstPairs, Except.ok.injEq, Prod.mk.injEq] at h; rw [h.2]; exact refl _
  | succ n ih =>
    intro a s b t h
    unfold burstPairs at h
    split at h
    · rename_i b' t' hp
      split at h
      · simp only [Except.ok.injEq, Prod.mk.injEq] at h
        rw [← h.2]; exact pair _ _ _ _ hp
      · split at h
        · exact trans _ _ _ (pair _ _ _ _ hp) (trans _ _ _ (wait _ _ ‹_›) (ih _ _ _ _ h))
        · cases h
    · cases h

end Sys2Proof.Machine
end

