-- ==== Sys2Proof/Laws/Exec.lean ====
section
/-! SUPPORT. `exec` on each operation, in terms of the shared operations. -/

namespace Sys2Proof.Machine

variable (s : State) (e c d b : Bool)

theorem exec_poll : exec (.poll e c d b) s = outcomeOf (pollTick e c d b s) := rfl

theorem exec_start : exec (.start e c d b) s = execStart e c d b s := rfl

theorem exec_rdsteps :
    exec .rdsteps s = .next (respond (drainSteps s).1.status (drainSteps s).1.value (drainSteps s).2) := rfl

theorem exec_rdpress :
    exec .rdpress s = .next (respond (drainPress s).1.status (drainPress s).1.value (drainPress s).2) := rfl

theorem exec_close : exec .close s = .next (respond .ok none (closeBlock s)) := rfl

theorem exec_rdstat : exec .rdstat s = .next (respond .ok (some (.stat (statWord s))) s) := rfl

theorem exec_burst : exec .burst s = execBurst s := rfl

/-- The table row of an index, run as an operation, is `applyRow` of that index. -/
theorem exec_row : ∀ (i : Nibble) (s : State), exec (decodeI4 i) s = .next (applyRow i s) := by
  intro i s
  have h : ∀ j : Fin 16, exec (decodeI4 (BitVec.ofFin j)) s = .next (applyRow (BitVec.ofFin j) s) := by
    intro j; fin_cases j <;> rfl
  exact h i.toFin

/-- What a step does with the next entry of the stream. -/
theorem step_event {s : State} {w : Byte} {rest : List Input} (h : s.inputs = .event w :: rest) :
    step s = match decodeE8 w with
      | .ok i => exec i { s with inputs := rest }
      | .error _ => .next (answerReserved { s with inputs := rest }) := by
  unfold step fetch; rw [h]; simp only [decode]; cases decodeE8 w <;> rfl

theorem step_burst {s : State} {rest : List Input} (h : s.inputs = .burst :: rest) :
    step s = exec .burst { s with inputs := rest } := by
  unfold step fetch; rw [h]; rfl

theorem step_configure {s : State} {k : CfgIn} {rest : List Input} (h : s.inputs = .configure k :: rest) :
    step s = .next (presentCfg k { s with inputs := rest }) := by
  unfold step fetch; rw [h]

theorem step_ended {s : State} (h : s.inputs = []) : step s = .next s := by
  unfold step fetch; rw [h]

end Sys2Proof.Machine
end

