-- ==== Sys2Proof/Laws/PerInstr.lean ====
section
/-! SUPPORT. The family `TableRow`: the code of every operation carries the match bits that its row of
spec/opcode_table.json gives under the row's mask, and no other row's format. -/

namespace Sys2Proof.Laws

/-- The format of a row of the opcode table. -/
inductive RowFormat where
  | e8
  | i4
  | pseudo
  deriving DecidableEq, Repr

/-- A code has this format, and its bits under `mask` are `bits`. -/
def codeMatches (f : RowFormat) (bits mask : Nat) (c : Code) : Bool :=
  match c, f with
  | .e8 w, .e8 => w.toNat &&& mask == bits
  | .i4 i, .i4 => i.toNat &&& mask == bits
  | .pseudo w, .pseudo => w.toNat &&& mask == bits
  | _, _ => false

/-- The row of spec/opcode_table.json an operation stands for: format, match, mask. -/
def tableRow : Instr → RowFormat × Nat × Nat
  | .poll _ _ _ _ => (.e8, 0x00, 0xF0)
  | .start _ _ _ _ => (.e8, 0x20, 0xF0)
  | .rdsteps => (.e8, 0x40, 0xFF)
  | .rdpress => (.e8, 0x60, 0xFF)
  | .close => (.e8, 0x80, 0xFF)
  | .rdstat => (.e8, 0xA0, 0xFF)
  | .qd00_00 => (.i4, 0x0, 0xF)
  | .qd00_01 => (.i4, 0x1, 0xF)
  | .qd00_10 => (.i4, 0x2, 0xF)
  | .qd00_11 => (.i4, 0x3, 0xF)
  | .qd01_00 => (.i4, 0x4, 0xF)
  | .qd01_01 => (.i4, 0x5, 0xF)
  | .qd01_10 => (.i4, 0x6, 0xF)
  | .qd01_11 => (.i4, 0x7, 0xF)
  | .qd10_00 => (.i4, 0x8, 0xF)
  | .qd10_01 => (.i4, 0x9, 0xF)
  | .qd10_10 => (.i4, 0xA, 0xF)
  | .qd10_11 => (.i4, 0xB, 0xF)
  | .qd11_00 => (.i4, 0xC, 0xF)
  | .qd11_01 => (.i4, 0xD, 0xF)
  | .qd11_10 => (.i4, 0xE, 0xF)
  | .qd11_11 => (.i4, 0xF, 0xF)
  | .burst => (.pseudo, 0x4060, 0xFFFF)

/-- The code of the operation matches its row. -/
def TableRow.Statement (i : Instr) : Prop :=
  codeMatches (tableRow i).1 (tableRow i).2.1 (tableRow i).2.2 (encode i) = true

theorem TableRow.poll (e c d s : Bool) : TableRow.Statement (.poll e c d s) := by
  cases e <;> cases c <;> cases d <;> cases s <;> rfl

theorem TableRow.start (e c d s : Bool) : TableRow.Statement (.start e c d s) := by
  cases e <;> cases c <;> cases d <;> cases s <;> rfl

theorem TableRow.rdsteps : TableRow.Statement .rdsteps := (by decide : _ = true)

theorem TableRow.rdpress : TableRow.Statement .rdpress := (by decide : _ = true)

theorem TableRow.close : TableRow.Statement .close := (by decide : _ = true)

theorem TableRow.rdstat : TableRow.Statement .rdstat := (by decide : _ = true)

theorem TableRow.qd00_00 : TableRow.Statement .qd00_00 := (by decide : _ = true)

theorem TableRow.qd00_01 : TableRow.Statement .qd00_01 := (by decide : _ = true)

theorem TableRow.qd00_10 : TableRow.Statement .qd00_10 := (by decide : _ = true)

theorem TableRow.qd00_11 : TableRow.Statement .qd00_11 := (by decide : _ = true)

theorem TableRow.qd01_00 : TableRow.Statement .qd01_00 := (by decide : _ = true)

theorem TableRow.qd01_01 : TableRow.Statement .qd01_01 := (by decide : _ = true)

theorem TableRow.qd01_10 : TableRow.Statement .qd01_10 := (by decide : _ = true)

theorem TableRow.qd01_11 : TableRow.Statement .qd01_11 := (by decide : _ = true)

theorem TableRow.qd10_00 : TableRow.Statement .qd10_00 := (by decide : _ = true)

theorem TableRow.qd10_01 : TableRow.Statement .qd10_01 := (by decide : _ = true)

theorem TableRow.qd10_10 : TableRow.Statement .qd10_10 := (by decide : _ = true)

theorem TableRow.qd10_11 : TableRow.Statement .qd10_11 := (by decide : _ = true)

theorem TableRow.qd11_00 : TableRow.Statement .qd11_00 := (by decide : _ = true)

theorem TableRow.qd11_01 : TableRow.Statement .qd11_01 := (by decide : _ = true)

theorem TableRow.qd11_10 : TableRow.Statement .qd11_10 := (by decide : _ = true)

theorem TableRow.qd11_11 : TableRow.Statement .qd11_11 := (by decide : _ = true)

theorem TableRow.burst : TableRow.Statement .burst := (by decide : _ = true)

end Sys2Proof.Laws
end

