-- ==== Sys2Proof/Tests/Slice0.lean ====
section
/-! SUPPORT. Tests. Expected values come from the spec: the encodings of 30_encoding.md, the worked vectors of
95_test_vectors.md and the examples in the rules. The second half shows, for every statement with hypotheses, that a
concrete state and concrete operands meet them, each clause at an edge of its range. -/

open Sys2Proof Sys2Proof.Machine

namespace Sys2Proof.Tests

/-! ### Well-formedness: each check refuses an ill-formed term -/

theorem test_wellFormed_steps_width :
    stepsWidthOk (some 1) = false ∧ stepsWidthOk (some 2) = true ∧ stepsWidthOk none = true := by decide

theorem test_wellFormed_join_timeout : joinTimeoutOk 0 = false ∧ joinTimeoutOk 1 = true := by decide

theorem test_wellFormed_params :
    { Config.resetParams with stepsW := some 1 }.wellFormed = false ∧
    { Config.resetParams with joinTimeout := 0 }.wellFormed = false ∧ Config.resetParams.wellFormed = true := by decide

/-- No operation has an operand to refuse (rule R79). -/
theorem test_wellFormed_operations : ∀ e c d s : Bool,
    (Instr.poll e c d s).wellFormed = true ∧ (Instr.start e c d s).wellFormed = true := by decide

/-- Rule R80 c, one illegal field each (V-BADCFG: `PPR` = 3). -/
theorem test_illegal_configurations :
    cfgLegal { Config.resetCfg with ppr := 3 } = false ∧ cfgLegal { Config.resetCfg with dir := 0 } = false ∧
    cfgLegal { Config.resetCfg with pollInterval := 0 } = false ∧
    cfgLegal { Config.resetCfg with errLimit := 0 } = false ∧
    unpackCfg 0b00000011#8 1 5 3 = none ∧ unpackCfg 0b00010010#8 1 5 3 = none := by decide

/-! ### Decoding: each word written out from its row of rules R73, R75 and R76 -/

theorem test_decode_poll :
    decodeE8 0b00000011#8 = .ok (.poll false false true true) ∧
    decodeE8 0b00001000#8 = .ok (.poll true false false false) ∧
    decodeE8 0b00000101#8 = .ok (.poll false true false true) := by decide

theorem test_decode_start :
    decodeE8 0b00100111#8 = .ok (.start false true true true) ∧
    decodeE8 0b00101000#8 = .ok (.start true false false false) ∧
    decodeE8 0b00100010#8 = .ok (.start false false true false) := by decide

theorem test_decode_commands :
    decodeE8 0b01000000#8 = .ok .rdsteps ∧ decodeE8 0b01100000#8 = .ok .rdpress ∧
    decodeE8 0b10000000#8 = .ok .close ∧ decodeE8 0b10100000#8 = .ok .rdstat := by decide

/-- V-ADMIT events 7 to 9 and P5 events 15 to 17. -/
theorem test_decode_reserved :
    decodeE8 0x10#8 = .error .zBit ∧ decodeE8 0x30#8 = .error .zBit ∧ decodeE8 0xE5#8 = .error .opcode ∧
    decodeE8 0xC0#8 = .error .opcode ∧ decodeE8 0x50#8 = .error .zBit ∧ decodeE8 0x41#8 = .error .nibble := by decide

theorem test_decode_rows_from_low :
    decodeI4 0b0000#4 = .qd00_00 ∧ decodeI4 0b0001#4 = .qd00_01 ∧ decodeI4 0b0010#4 = .qd00_10 ∧
    decodeI4 0b0011#4 = .qd00_11 ∧ decodeI4 0b0100#4 = .qd01_00 ∧ decodeI4 0b0101#4 = .qd01_01 ∧
    decodeI4 0b0110#4 = .qd01_10 ∧ decodeI4 0b0111#4 = .qd01_11 := by decide

theorem test_decode_rows_from_high :
    decodeI4 0b1000#4 = .qd10_00 ∧ decodeI4 0b1001#4 = .qd10_01 ∧ decodeI4 0b1010#4 = .qd10_10 ∧
    decodeI4 0b1011#4 = .qd10_11 ∧ decodeI4 0b1100#4 = .qd11_00 ∧ decodeI4 0b1101#4 = .qd11_01 ∧
    decodeI4 0b1110#4 = .qd11_10 ∧ decodeI4 0b1111#4 = .qd11_11 := by decide

theorem test_decode_burst :
    decode (.pseudo 0b0100000001100000#16) = .ok .burst ∧ decode (.pseudo 0x4061#16) = .error .pattern := by decide

theorem test_table_numbers :
    decodeTableWord 8 0x27 = some (.start false true true true) ∧ decodeTableWord 4 13 = some .qd11_01 ∧
    decodeTableWord 16 0x4060 = some .burst ∧ decodeTableWord 8 0xC0 = none := by decide

/-- V-DECODE: 16 words are `POLL`, 16 are `START`, 4 are the other commands. -/
theorem test_decode_count :
    ((List.range 256).filter fun w => (decodeE8 (BitVec.ofNat 8 w)).toOption.isSome).length = 36 := by decide

/-- Rule R82: clock first, then data, then button. -/
theorem test_trace_line :
    readLine ['P', 'O', 'L', 'L', ' ', '0', '1', '1'] = some (.poll false false true true) ∧
    readLine ['P', 'O', 'L', 'L', ' ', '0', '0', '0', '!'] = some (.poll true false false false) ∧
    traceLine (.start false true true false) = some ['S', 'T', 'A', 'R', 'T', ' ', '1', '1', '0'] := by decide

/-- Rule R78: `PPR_SEL` 0, 1, 2, then `ACTIVE_LEVEL`, then `DIR_NEG`. -/
theorem test_cfg0_words :
    [0x00#8, 0x01#8, 0x02#8, 0x04#8, 0x08#8].map (fun w =>
      (presentedCfg (.packed w 1 5 3)).map fun c => (c.ppr, c.activeLevel, c.dir)) =
      [some (1, false, 1), some (2, false, 1), some (4, false, 1), some (1, true, 1), some (1, false, -1)] := by decide

/-- Rule R77. -/
theorem test_status_codes :
    [Status.ok, .notReady, .busy, .badCmd, .badCfg].map statusCode = [0, 1, 2, 3, 4] := by decide

/-! ### One step each -/

/-- A started block: `START 111` of 95_test_vectors.md with its conventions. -/
def run (s : State) : State := { s with mode := .running, linesOpen := true, prevState := 0b11, lastButtonLevel := true }

/-- A started block with the configuration of the examples. -/
def run0 : State := run State.reset

/-- The same, `PPR` = 1. -/
def run1 : State := { run0 with cfg := { Config.resetCfg with ppr := 1 } }

/-- A soft-disabled block. -/
def dis0 : State := { run0 with mode := .disabled, errCount := 3 }

/-- A closed block. -/
def stop0 : State := { State.reset with mode := .stopped, stopFlag := true }

/-- A state with one event word to execute. -/
def fed (w : Byte) (s : State) : State := { s with inputs := [.event w] }

/-- The state after an outcome. -/
def after (o : Host.Outcome State Fault Refusal) : Option State :=
  match o with
  | .next t => some t
  | _ => none

/-- P1 event 2: rule R100's example. -/
theorem test_poll_forward :
    (after (step (fed 0x03 run0))).map (fun t => (t.now, t.accum, t.steps, t.prevState)) = some (1, 1, 0, 0b01) := by
  decide

/-- P4 event 8: the third errored poll. -/
theorem test_poll_error_limit :
    (after (step (fed 0x08 { run1 with errCount := 2, steps := 1 }))).map
      (fun t => (t.errCount, t.mode, t.steps, t.prevState)) = some (3, .disabled, 0, 0b11) := by decide

/-- Rule R170's example. -/
theorem test_start_running :
    (after (step (fed 0x27 State.reset))).map (fun t => (t.mode, t.prevState, t.lastButtonLevel, t.accum)) =
      some (.running, 0b11, true, 0) := by decide

/-- V-ERR-START. -/
theorem test_start_errored :
    (after (step (fed 0x28 State.reset))).map (fun t => (t.mode, t.prevState, t.lastButtonLevel, t.errCount)) =
      some (.running, 0b11, true, 0) := by decide

/-- P1 event 6. -/
theorem test_rdsteps_drains :
    (after (step (fed 0x40 { run0 with steps := 1 }))).map (fun t => (t.steps, t.observed)) =
      some (0, [{ status := .ok, value := some (.steps 1) }]) := by decide

/-- V-ADMIT event 1. -/
theorem test_rdsteps_idle :
    (after (step (fed 0x40 State.reset))).map State.observed = some [{ status := .notReady, value := none }] := by decide

/-- P2 event 6. -/
theorem test_rdpress_drains :
    (after (step (fed 0x60 { run0 with pressLatch := true, pressBlocked := true }))).map
      (fun t => (t.pressLatch, t.pressBlocked, t.observed)) =
      some (false, true, [{ status := .ok, value := some (.press true) }]) := by decide

/-- P5 events 3 and 4. -/
theorem test_close_running :
    (after (step (fed 0x80 run1))).map (fun t => (t.mode, t.stopFlag, t.linesOpen, statWord t)) =
      some (.running, true, false, 5) := by decide

/-- P4 events 14 and 15. -/
theorem test_close_disabled :
    (after (step (fed 0x80 dis0))).map (fun t => (t.mode, t.stopFlag, t.linesOpen, statWord t)) =
      some (.stopped, true, false, 7) := by decide

/-- P4 event 11. -/
theorem test_rdstat_disabled :
    (after (step (fed 0xA0 dis0))).map State.observed = some [{ status := .ok, value := some (.stat 2) }] := by decide

/-- The table of 95_test_vectors.md section 2.1, both values of `DIR`, and `prev_state` after each row. -/
theorem test_rows :
    ((List.range 16).map fun i =>
      ((after (exec (decodeI4 (BitVec.ofNat 4 i)) run0)).map State.accum,
        (after (exec (decodeI4 (BitVec.ofNat 4 i)) { run0 with cfg := mirrorCfg Config.resetCfg })).map State.accum,
        (after (exec (decodeI4 (BitVec.ofNat 4 i)) run0)).map State.prevState)) =
      [(some 0, some 0, some 0), (some (-1), some 1, some 1), (some 1, some (-1), some 2), (some 0, some 0, some 3),
       (some 1, some (-1), some 0), (some 0, some 0, some 1), (some 0, some 0, some 2), (some (-1), some 1, some 3),
       (some (-1), some 1, some 0), (some 0, some 0, some 1), (some 0, some 0, some 2), (some 1, some (-1), some 3),
       (some 0, some 0, some 0), (some 1, some (-1), some 1), (some (-1), some 1, some 2), (some 0, some 0, some 3)] := by
  decide

/-- V-BURST, events 2 to 19. -/
theorem test_burst_running :
    (after (exec .burst { run1 with
      inputs := [.event 0x07, .event 0x07, .event 0x03, .event 0x03, .event 0x03, .event 0x03, .event 0x03,
        .event 0x03] })).map (fun t => (t.burstResult, t.now, t.observed.length, t.inputs, t.prevState)) =
      some (some (1, false), 8, 10, [], 0b01) := by decide

/-- V-BURST-IDLE. -/
theorem test_burst_idle :
    (after (exec .burst State.reset)).map (fun t => (t.burstResult, t.now, t.mode, t.observed.length)) =
      some (some (0, false), 8, .idle, 10) := by decide

/-- V-TRUNC. -/
theorem test_trunc :
    [trunc 4 4, trunc (-4) 4, trunc 3 4, trunc (-3) 4, trunc (-1) 2, trunc (-2) 2, trunc (-1) 1, trunc (-7) 4] =
      [1, -1, 0, 0, 0, -1, -1, -1] := by decide

/-! ### Witnesses -/

theorem run0_inv : run0.Inv := by constructor <;> decide

theorem dis0_inv : dis0.Inv := by constructor <;> decide

theorem stop0_inv : stop0.Inv := by constructor <;> decide

/-- A block one forward transition short of a detent. -/
def brim : State := { run0 with accum := 3, prevState := 0b10 }

/-- A block one backward transition short of a detent. -/
def nadir : State := { run0 with accum := -3, prevState := 0b01 }

theorem brim_inv : brim.Inv := by constructor <;> decide

theorem nadir_inv : nadir.Inv := by constructor <;> decide

/-- A block with a bounded counter of detents. -/
def narrow (s : State) (v : Int) : State := { s with steps := v, params := { s.params with stepsW := some 2 } }

/-- Op 6 first, `z` in a tick and in a command, the lowest nonzero nibble, and the last word that is not reserved. -/
theorem witness_ReservedWordsAnswerBadCmd :
    (∀ w : Byte, (fed w run0).inputs = .event w :: []) ∧ 6 ≤ (0xC0#8).toNat / 32 ∧ (0x10#8).toNat / 16 % 2 = 1 ∧
    (2 ≤ (0x41#8).toNat / 32 ∧ (0x41#8).toNat % 16 ≠ 0) ∧
    ¬(6 ≤ (0xA0#8).toNat / 32 ∨ (0xA0#8).toNat / 16 % 2 = 1 ∨ (2 ≤ (0xA0#8).toNat / 32 ∧ (0xA0#8).toNat % 16 ≠ 0)) ∧
    ¬(6 ≤ (0x2F#8).toNat / 32 ∨ (0x2F#8).toNat / 16 % 2 = 1 ∨ (2 ≤ (0x2F#8).toNat / 32 ∧ (0x2F#8).toNat % 16 ≠ 0)) :=
  ⟨fun _ => rfl, by decide⟩

theorem witness_StepRunsDecodedOperation :
    (fed 0x03 run0).inputs = .event 0x03 :: [] ∧ decode (.e8 0x03#8) = .ok (.poll false false true true) ∧
    (Instr.poll false false true true).wellFormed = true ∧ { run0 with inputs := [.burst] }.inputs = .burst :: [] := by
  decide

theorem witness_StepWithoutEvent :
    State.reset.ended ∧ { State.reset with inputs := [.configure (.packed 2 1 5 3)] }.inputs =
      .configure (.packed 2 1 5 3) :: [] := by decide

theorem witness_HoldRowsChangeNothing :
    { run0 with prevState := 0b00 }.prevState = 0b00#2 ∧ { run0 with prevState := 0b01 }.prevState = 0b01#2 ∧
    { run0 with prevState := 0b10 }.prevState = 0b10#2 ∧ run0.prevState = 0b11#2 := by decide

theorem witness_PollRunsSelectedRow :
    brim.mode = .running ∧ brim.stopFlag = false ∧ brim.params.stepsW = none ∧ brim.params.timeW = none := by decide

theorem witness_TruncTowardZero : (0 : Int) < 1 ∧ (0 : Int) ≤ 0 ∧ (-1 : Int) < 0 := by decide

theorem witness_TickOutsideRunningAdvancesTimeOnly :
    (State.reset.mode ≠ .running ∧ timeFits State.reset.params.timeW (State.reset.now + tickInterval State.reset) = true) ∧
    (dis0.mode ≠ .running ∧ timeFits dis0.params.timeW (dis0.now + tickInterval dis0) = true ∧ dis0.mode ≠ .idle) ∧
    (stop0.mode ≠ .running ∧ timeFits stop0.params.timeW (stop0.now + tickInterval stop0) = true ∧ stop0.mode ≠ .idle) := by
  decide

/-- A block at power-on with a one-bit clock and a packed configuration. -/
def fresh : State :=
  { State.reset with cfgIn := .packed 2 1 5 3, params := { Config.resetParams with timeW := some 1 } }

/-- A running block whose one-bit clock is full. -/
def late : State := { run0 with now := 1, params := { Config.resetParams with timeW := some 1 } }

/-- The second state reaches the last time that fits one bit. -/
theorem witness_IdleTickUsesPresentedInterval :
    (State.reset.mode = .idle ∧ State.reset.cfgIn = .record Config.resetCfg ∧ timeFits State.reset.params.timeW
      (State.reset.now + Config.resetCfg.pollInterval) = true) ∧
    (fresh.mode = .idle ∧ fresh.cfgIn = .packed 2 1 5 3 ∧ timeFits fresh.params.timeW (fresh.now + 1) = true) := by decide

theorem witness_StopCheckStopsSampler :
    { run0 with stopFlag := true }.mode = .running ∧ { run0 with stopFlag := true }.stopFlag = true ∧
    timeFits run0.params.timeW (run0.now + run0.cfg.pollInterval) = true := by decide

/-- The third of three errors, and the first where the limit is 1. -/
theorem witness_ErrorLimitDisables :
    (run0.mode = .running ∧ run0.stopFlag = false ∧ run0.cfg.errLimit ≤ { run0 with errCount := 2 }.errCount + 1 ∧
      timeFits run0.params.timeW (run0.now + run0.cfg.pollInterval) = true) ∧
    ({ run0.cfg with errLimit := 1 }.errLimit ≤ run0.errCount + 1) := by decide

/-- The last error below the limit, and a detent that just fits a two-bit counter. -/
theorem witness_PollIterationEffect :
    (run0.mode = .running ∧ run0.stopFlag = false ∧ { run0 with errCount := 1 }.errCount + 1 < run0.cfg.errLimit ∧
      timeFits run0.params.timeW (run0.now + run0.cfg.pollInterval) = true) ∧
    (brim.cfg.ppr ≤ ((brim.accum + brim.cfg.dir * tt (brim.prevState ++ (BitVec.ofBool true ++ BitVec.ofBool true))).natAbs : Int) ∧
      stepsFits (narrow brim 0).params.stepsW ((narrow brim 0).steps + trunc 4 brim.cfg.ppr) = true) := by decide

/-- One detent above and one below a two-bit counter. -/
theorem witness_StepsOverflowFaults :
    ((narrow brim 1).mode = .running ∧ (narrow brim 1).stopFlag = false ∧ (narrow brim 1).params.stepsW = some 2 ∧
      timeFits (narrow brim 1).params.timeW ((narrow brim 1).now + (narrow brim 1).cfg.pollInterval) = true ∧
      brim.cfg.ppr ≤ ((3 + brim.cfg.dir * tt (0b10#2 ++ (BitVec.ofBool true ++ BitVec.ofBool true))).natAbs : Int) ∧
      2 ^ (2 - 1) ≤ (narrow brim 1).steps + trunc 4 brim.cfg.ppr) ∧
    (nadir.cfg.ppr ≤ ((-3 + nadir.cfg.dir * tt (0b01#2 ++ (BitVec.ofBool true ++ BitVec.ofBool true))).natAbs : Int) ∧
      (narrow nadir (-2)).steps + trunc (-4) nadir.cfg.ppr < -(2 ^ (2 - 1))) := by decide

theorem witness_TimeWrapFaults :
    late.params.timeW = some 1 ∧ 2 ^ 1 ≤ late.now + tickInterval late := by decide

theorem witness_ErroredPollReadsHigh :
    run0.mode = .running ∧ run0.stopFlag = false ∧ { run0 with errCount := 1 }.errCount + 1 < run0.cfg.errLimit ∧
    ∃ t, exec (.poll false true true true) { run0 with errCount := 1 } = .next t := ⟨rfl, rfl, by decide, _, rfl⟩

theorem witness_PollFrame : ∃ t, exec (.poll false false true true) run0 = .next t := ⟨_, rfl⟩

theorem witness_OneDetentPerPoll :
    (brim.Inv ∧ brim.mode = .running ∧ ∃ t, exec (.poll false true true true) brim = .next t ∧ t.mode = .running ∧
      t.steps = brim.steps + 1) ∧
    (nadir.Inv ∧ nadir.mode = .running ∧ ∃ t, exec (.poll false true true true) nadir = .next t ∧ t.mode = .running ∧
      t.steps = nadir.steps - 1) :=
  ⟨⟨brim_inv, rfl, _, rfl, rfl, by decide⟩, ⟨nadir_inv, rfl, _, rfl, rfl, by decide⟩⟩

/-- The window of five intervals: after five active polls the latch is clear, after six it is set (S2). -/
theorem witness_LatchSetAfterWindow :
    ∀ n, n = 5 ∨ n = 6 → List.replicate n (0x06#8) ≠ [] ∧
      { run0 with inputs := (List.replicate n (0x06#8)).map Input.event ++ [] }.inputs =
        (List.replicate n (0x06#8)).map Input.event ++ [] ∧
      (∀ w ∈ List.replicate n (0x06#8), ∃ c d, decodeE8 w = .ok (.poll false c d run0.cfg.activeLevel)) ∧
      run0.mode = .running ∧ run0.stopFlag = false ∧ run0.params.stepsW = none ∧ run0.params.timeW = none ∧
      run0.lastButtonLevel ≠ run0.cfg.activeLevel ∧ run0.pressBlocked = false ∧ run0.pressLatch = false := by
  rintro n (rfl | rfl)
  all_goals
    refine ⟨by decide, rfl, fun w hw => ?_, rfl, rfl, rfl, rfl, by decide, rfl, rfl⟩
    rw [List.eq_of_mem_replicate hw]
    exact ⟨true, true, rfl⟩

theorem witness_HeldAtStartLatches :
    State.reset.mode = .idle ∧ presentedCfg State.reset.cfgIn = some Config.resetCfg ∧
    { State.reset with inputs := [.event 0x06] }.inputs = [0x06#8].map Input.event ++ [] ∧
    (∀ w ∈ [0x06#8], ∃ x y, decodeE8 w = .ok (.poll false x y Config.resetCfg.activeLevel)) ∧
    State.reset.params.stepsW = none ∧ State.reset.params.timeW = none ∧
    ∃ t, exec (.start false true true Config.resetCfg.activeLevel) { State.reset with inputs := [.event 0x06] } = .next t := by
  refine ⟨rfl, by decide, rfl, fun w hw => ?_, rfl, rfl, _, rfl⟩
  rw [List.mem_singleton.mp hw]
  exact ⟨true, true, rfl⟩

theorem witness_UnchangedLinesReportNothing :
    run0.Inv ∧ run0.mode = .running ∧ run0.stopFlag = false ∧ run0.errCount = 0 ∧
    run0.prevState = BitVec.ofBool true ++ BitVec.ofBool true ∧ run0.lastButtonLevel = true ∧
    true ≠ run0.cfg.activeLevel ∧ timeFits run0.params.timeW (run0.now + run0.cfg.pollInterval) = true :=
  ⟨run0_inv, rfl, rfl, rfl, by decide, rfl, by decide, rfl⟩

/-- A held button after its latch was drained, with a tick and a drain to come. -/
def held : State :=
  { run0 with lastButtonLevel := false, pressBlocked := true, inputs := [.event 0x06, .event 0x60] }

theorem witness_HeldButtonLatchesOnce :
    (∀ x ∈ held.inputs.take 2, ∃ w, x = .event w ∧
      (decodeE8 w = .ok .rdsteps ∨ decodeE8 w = .ok .rdpress ∨ decodeE8 w = .ok .rdstat ∨
        ∃ e c d b, decodeE8 w = .ok (.poll e c d b) ∧ (e || b) = held.cfg.activeLevel)) ∧
    held.pressBlocked = true ∧ held.pressLatch = false ∧ ∃ t, runSteps 2 held = some t := by
  refine ⟨fun x hx => ?_, rfl, rfl, _, rfl⟩
  have : x = .event 0x06 ∨ x = .event 0x60 := by simpa [held] using hx
  rcases this with rfl | rfl
  · exact ⟨_, rfl, .inr (.inr (.inr ⟨false, true, true, false, rfl, rfl⟩))⟩
  · exact ⟨_, rfl, .inr (.inl rfl)⟩

theorem witness_LatchStaysUntilDrained :
    decodeE8 0x07#8 ≠ .ok .rdpress ∧ (fed 0x07 { run0 with pressLatch := true }).mode = .running ∧
    (fed 0x07 { run0 with pressLatch := true }).pressLatch = true ∧
    ∃ t, step (fed 0x07 { run0 with pressLatch := true }) = .next t ∧ t.mode = .running := ⟨by decide, rfl, rfl, _, rfl, rfl⟩

theorem witness_StartResetsEveryElement :
    (State.reset.mode = .idle ∧ presentedCfg State.reset.cfgIn = some Config.resetCfg) ∧
    (stop0.mode = .stopped ∧ presentedCfg stop0.cfgIn = some Config.resetCfg) := by decide

theorem witness_StartTurnedAway :
    run0.mode = .running ∧ dis0.mode = .disabled ∧ State.reset.mode = .idle ∧ stop0.mode = .stopped ∧
    presentedCfg (.record { Config.resetCfg with ppr := 3 }) = none := by decide

/-- A legal record with every packed bit at its other value, the four refused kinds of word, and an accepted word. -/
theorem witness_PackedConfiguration :
    presentedCfg (.record { ppr := 4, activeLevel := true, dir := -1, pollInterval := 1, debounceWindow := 0, errLimit := 1 }) =
      some { ppr := 4, activeLevel := true, dir := -1, pollInterval := 1, debounceWindow := 0, errLimit := 1 } ∧
    (0x03#8).toNat % 4 = 3 ∧ 16 ≤ (0x10#8).toNat ∧ (presentedCfg (.packed 0x0E 1 0 1)).isSome = true := by decide

theorem witness_StepsDrain_and_PressDrain :
    ((run0.mode = .running ∨ run0.mode = .disabled) ∧ run0.stopFlag = false) ∧
    ((dis0.mode = .running ∨ dis0.mode = .disabled) ∧ dis0.stopFlag = false) ∧
    ¬((State.reset.mode = .running ∨ State.reset.mode = .disabled) ∧ State.reset.stopFlag = false) ∧
    ¬(({ run0 with stopFlag := true }.mode = .running ∨ { run0 with stopFlag := true }.mode = .disabled) ∧
      { run0 with stopFlag := true }.stopFlag = false) ∧ dis0.Inv ∧ dis0.mode = .disabled :=
  ⟨by decide, by decide, by decide, by decide, dis0_inv, rfl⟩

theorem witness_CloseEffect :
    run0.mode = .running ∧ dis0.mode = .disabled ∧ State.reset.mode = .idle ∧ stop0.mode = .stopped := by decide

theorem witness_CloseStopsAtNextTick_and_CloseIsIdempotent :
    run0.mode = .running ∧ run0.params.timeW = none ∧ ∃ t, exec .close run0 = .next t := ⟨rfl, rfl, _, rfl⟩

/-- A running block with a stop pending. -/
def closing : State := { run0 with stopFlag := true, linesOpen := false }

theorem witness_StatusWordValues :
    State.reset.Inv ∧ run0.Inv ∧ closing.Inv ∧ dis0.Inv ∧ stop0.Inv ∧ ∃ t, exec .rdstat closing = .next t :=
  ⟨by constructor <;> decide, run0_inv, by constructor <;> decide, dis0_inv, stop0_inv, _, rfl⟩

theorem witness_SecondDrainIsEmpty :
    run0.mode = .running ∧ run0.stopFlag = false ∧
    (∃ t u, exec .rdsteps run0 = .next t ∧ exec .rdsteps t = .next u) ∧
    ∃ t u, exec .rdpress run0 = .next t ∧ exec .rdpress t = .next u := ⟨rfl, rfl, ⟨_, _, rfl, rfl⟩, _, _, rfl, rfl⟩

theorem witness_HostCannotReadPrivateState :
    agreeButPrivate run0 { run0 with accum := 2, errCount := 1, prevState := 0b00 } ∧
    (∃ t, exec .rdsteps run0 = .next t) ∧ (∃ t, exec .rdpress run0 = .next t) ∧ (∃ t, exec .close run0 = .next t) ∧
    (∃ t, exec .rdstat run0 = .next t) ∧ ∃ t, exec (.start false true true true) run0 = .next t :=
  ⟨rfl, ⟨_, rfl⟩, ⟨_, rfl⟩, ⟨_, rfl⟩, ⟨_, rfl⟩, _, rfl⟩

theorem witness_BurstSumsItsResponses : State.reset.params.stepsW = none ∧ State.reset.params.timeW = none := by decide

theorem witness_BurstOnDeadBlockIsEmpty :
    ¬((State.reset.mode = .running ∨ State.reset.mode = .disabled) ∧ State.reset.stopFlag = false) ∧
    ¬((stop0.mode = .running ∨ stop0.mode = .disabled) ∧ stop0.stopFlag = false) ∧
    ¬(({ run0 with stopFlag := true }.mode = .running ∨ { run0 with stopFlag := true }.mode = .disabled) ∧
      { run0 with stopFlag := true }.stopFlag = false) ∧
    (dis0.mode = .disabled ∧ dis0.Inv) ∧ (∃ t, exec .burst State.reset = .next t) ∧ ∃ t, exec .burst dis0 = .next t :=
  ⟨by decide, by decide, by decide, ⟨rfl, dis0_inv⟩, ⟨_, rfl⟩, _, rfl⟩

theorem witness_BurstWithoutTicks :
    { run0 with params := { run0.params with nSamples := 0 } }.params.nSamples = 0 ∧
    (0 < { run0 with params := { run0.params with nSamples := 1, interSampleDelay := 0 } }.params.nSamples ∧
      { run0 with params := { run0.params with nSamples := 1, interSampleDelay := 0 } }.params.interSampleDelay = 0 ∧
      run0.turns = [] ∧ (run0.mode = .running ∨ run0.mode = .disabled) ∧ run0.stopFlag = false) := by decide

theorem witness_BurstWaitsTakeTime_and_BurstFrame :
    State.reset.params.interSampleDelay % tickInterval State.reset = 0 ∧ (∀ x ∈ State.reset.turns, x = false) ∧
    ∃ t, exec .burst State.reset = .next t := ⟨by decide, by decide, _, rfl⟩

/-- A running block with a tick period of 4 and bursts of two pairs, 6 apart. -/
def slow : State :=
  { run0 with
    cfg := { run0.cfg with pollInterval := 4 }
    params := { run0.params with nSamples := 2, interSampleDelay := 6 }
    inputs := [.event 0x07, .event 0x03, .event 0x03, .event 0x03] }

/-- Rules R83 and R227: one tick in the wait and none in the pairs; two in the wait; two and one in each pair, with the
choice that is left over. -/
theorem witness_BurstWaitsTakeTime_choices :
    (after (exec .burst slow)).map (fun t => (t.now - slow.now, t.turns)) = some (4, []) ∧
    (after (exec .burst { slow with turns := [false, true] })).map (fun t => (t.now - slow.now, t.turns)) = some (8, []) ∧
    (after (exec .burst { slow with turns := [true, true, true, false] })).map (fun t => (t.now - slow.now, t.turns)) =
      some (16, [false]) := by decide

/-- A running block about to make a burst of one pair, with a tick to come inside it. -/
def onePair : State :=
  { run0 with params := { run0.params with nSamples := 1 }, turns := [true], inputs := [.event 0x03] }

theorem witness_BurstTickInsidePair :
    onePair.params.nSamples = 1 ∧ onePair.turns = true :: [] ∧ onePair.inputs = .event 0x03 :: [] ∧
    decodeE8 0x03 = .ok (.poll false false true true) ∧
    ∃ t u v, exec .rdsteps onePair = .next t ∧ exec (.poll false false true true) t = .next u ∧
      exec .rdpress u = .next v :=
  ⟨rfl, rfl, rfl, by decide, _, _, _, rfl, rfl, rfl⟩

theorem witness_StepKeepsInvariant :
    State.reset.Inv ∧ (∃ t, step State.reset = .next t) ∧ brim.Inv ∧ ∃ t, step { brim with inputs := [.event 0x07] } = .next t :=
  ⟨by constructor <;> decide, ⟨_, rfl⟩, brim_inv, _, rfl⟩

theorem witness_StepAlwaysAnswers :
    (State.reset.params.stepsW = none ∧ State.reset.params.timeW = none) ∧
    step (fed 0x07 (narrow brim 1)) = .fault .stepsOverflow ∧
    step (fed 0x07 late) = .fault .timeWrap :=
  ⟨by decide, by rfl, by rfl⟩

theorem witness_ModeTransitions_and_TimeNeverGoesBack :
    (∃ t, step (fed 0x27 State.reset) = .next t ∧ t.mode = .running) ∧
    (∃ t, step (fed 0x08 { run0 with errCount := 2 }) = .next t ∧ t.mode = .disabled) ∧
    (∃ t, step (fed 0x07 { run0 with stopFlag := true }) = .next t ∧ t.mode = .stopped) ∧
    ∃ t, exec .rdstat run0 = .next t := ⟨⟨_, rfl, rfl⟩, ⟨_, rfl, rfl⟩, ⟨_, rfl, rfl⟩, _, rfl⟩

/-- A disabled block with a tick, a drain and a refused restart to come. -/
def dis3 : State := { dis0 with inputs := [.event 0x03, .event 0x40, .event 0x27] }

theorem witness_DisabledUntilClose :
    dis3.Inv ∧ dis3.mode = .disabled ∧ (∀ w, .event w ∈ dis3.inputs → decodeE8 w ≠ .ok .close) ∧
    ∃ t, runSteps 3 dis3 = some t := by
  refine ⟨by constructor <;> decide, rfl, fun w hw => ?_, _, rfl⟩
  have : w = 0x03 ∨ w = 0x40 ∨ w = 0x27 := by simpa [dis3] using hw
  rcases this with rfl | rfl | rfl <;> decide

/-- A running block that turns forward once and back once. -/
def turn : State := { run0 with inputs := [.event 0x03, .event 0x07] }

theorem witness_TransitionsConserved : keepsRunning 2 turn := ⟨rfl, rfl, _, rfl, rfl, rfl, _, rfl, rfl⟩

theorem witness_OppositeSequencesCancel :
    turn.Inv ∧ keepsRunning 2 turn ∧ turn.accum = 0 ∧ turn.steps = 0 ∧ runDelta 2 turn = 0 :=
  ⟨by constructor <;> decide, witness_TransitionsConserved, rfl, rfl, by decide⟩

theorem witness_ReportedIsFloorOrCeil :
    turn.Inv ∧ keepsRunning 1 turn ∧ turn.accum = 0 ∧ turn.steps = 0 ∧ runDelta 1 turn = 1 :=
  ⟨by constructor <;> decide, ⟨rfl, rfl, _, rfl, rfl⟩, rfl, rfl, by decide⟩

theorem witness_DestroyedCountersUnobserved :
    stop0.mode = .stopped ∧ agreeButCounters stop0 { stop0 with steps := 7, pressLatch := true } ∧
    ∃ t, runSteps 1 { stop0 with inputs := [.event 0x40] } = some t := ⟨rfl, rfl, _, rfl⟩

theorem witness_SignSymmetry : run0.params.stepsW = none ∧ ∃ t, step (fed 0x03 run0) = .next t := ⟨rfl, _, rfl⟩

end Sys2Proof.Tests
end

/-! # The sign of a rotation (00_scope.md rules R8 and R12, 41_quadrature.md rule R143)

`State.mirror` negates `DIR`, `accum`, `steps` and every drained value. Each operation of the model commutes with it:
the operation on the mirrored state gives the mirror of what it gives on the state. The table enters the state through
`DIR * TT[i]` alone, the detent test reads the magnitude of `accum`, and `trunc` is odd. Only `AtomicAdd` on a finite
cell could tell the signs apart, since a two's-complement range is not symmetric; hence the hypothesis that `STEPS_W`
is unbounded, and the lemmas that a tick keeps the parameters. -/

namespace Sys2Proof.Machine

/-! ## `trunc` -/

theorem trunc_neg (a b : Int) : trunc (-a) b = -trunc a b := Int.neg_tdiv a b

theorem trunc_of_nonneg {a b : Int} (ha : 0 ≤ a) (hb : 0 < b) : trunc a b = ((a.natAbs / b.natAbs : Nat) : Int) := by
  rw [trunc, Int.natCast_ediv, Int.natAbs_of_nonneg ha, Int.natAbs_of_nonneg hb.le, Int.tdiv_eq_ediv_of_nonneg ha]

/-- Settles O14: the two signs are linked by `trunc_neg`. -/
theorem truncTowardZero : Obligations.TruncTowardZero := by
  intro a b hb
  refine ⟨fun ha => trunc_of_nonneg ha hb, fun ha => ?_⟩
  calc trunc a b = -trunc (-a) b := by rw [trunc_neg, neg_neg]
    _ = -((a.natAbs / b.natAbs : Nat) : Int) := by rw [trunc_of_nonneg (by omega) hb, Int.natAbs_neg]

/-! ## The parameters along a tick -/

section Params

variable {s t : State} {e c d b : Bool}

theorem detent_params (h : detent s = .ok t) : t.params = s.params := by
  obtain ⟨-, rfl⟩ | ⟨-, -, rfl⟩ := detent_ok h <;> rfl

theorem pollIteration_params (h : pollIteration e c d b s = .ok t) : t.params = s.params := by
  obtain ⟨-, rfl⟩ | ⟨-, -, rfl⟩ | ⟨-, -, u, hu, rfl⟩ := pollIteration_ok h
  · rfl
  · rfl
  · calc (btn (sampleLevels e c d b).sw u).params = u.params := by rw [btn_eq]
      _ = s.params := by rw [detent_params hu, qdec_eq, countError_params]

theorem pollTick_params (h : pollTick e c d b s = .ok t) : t.params = s.params := by
  obtain ⟨-, ⟨-, rfl⟩ | ⟨-, hi⟩⟩ := pollTick_ok h
  · rfl
  · rw [pollIteration_params hi]

theorem environmentTick_params (h : environmentTick s = .ok t) : t.params = s.params := by
  obtain ⟨_, _, _, _, u, hu, ⟨_, _, -, -, rfl⟩ | rfl⟩ := environmentTick_ok h <;> rw [pollTick_params hu]

theorem runTicks_params {n : Nat} (h : runTicks n s = .ok t) : t.params = s.params :=
  runTicks_rel (fun s t => t.params = s.params) (fun _ => rfl) (fun _ _ _ h₁ h₂ => h₂.trans h₁)
    (fun _ _ => environmentTick_params) n s t h

theorem takeTurn_params (s : State) : (takeTurn s).2.params = s.params := by rw [takeTurn_state]

theorem waitTicks_params (s : State) : (waitTicks s).2.params = s.params := by
  obtain h | h := waitTicks_state s <;> rw [h]

theorem burstGap_params (h : burstGap s = .ok t) : t.params = s.params :=
  (runTicks_params h).trans (takeTurn_params s)

theorem burstWait_params (h : burstWait s = .ok t) : t.params = s.params :=
  (runTicks_params h).trans (waitTicks_params s)

theorem drainSteps_params (s : State) : (drainSteps s).2.params = s.params := by rw [drainSteps_state]

theorem drainPress_params (s : State) : (drainPress s).2.params = s.params := by rw [drainPress_state]

theorem burstPair_params {a a' : Tally} (h : burstPair a s = .ok (a', t)) : t.params = s.params := by
  unfold burstPair at h
  simp only at h
  split at h
  next u hu =>
    obtain ⟨-, rfl⟩ := Prod.mk.inj (Except.ok.inj h)
    calc (drainPress u).2.params = u.params := drainPress_params u
      _ = (drainSteps s).2.params := by rw [burstGap_params hu, respond_params]
      _ = s.params := drainSteps_params s
  next => cases h

end Params

/-! ## The mirror and the configuration -/

theorem cfgLegal_mirrorCfg (k : Cfg) : cfgLegal (mirrorCfg k) = cfgLegal k := by
  have flip : (-k.dir == 1 || -k.dir == -1) = (k.dir == 1 || k.dir == -1) := by
    rw [Bool.eq_iff_iff]; simp only [Bool.or_eq_true, beq_iff_eq]; omega
  unfold cfgLegal mirrorCfg
  rw [flip]

/-- Bit 3 of `CFG0` is the sign of `DIR` and of nothing else (rule R78). -/
theorem unpackCfg_mirror (w : Byte) (poll deb err : Nat) :
    unpackCfg (w ^^^ 0x08#8) poll deb err = (unpackCfg w poll deb err).map mirrorCfg := by
  have high : (w ^^^ 0x08#8).extractLsb' 4 4 = w.extractLsb' 4 4 := by simp [BitVec.extractLsb'_xor]
  have sel : (w ^^^ 0x08#8).extractLsb' 0 2 = w.extractLsb' 0 2 := by simp [BitVec.extractLsb'_xor]
  have level : (w ^^^ 0x08#8).getLsbD 2 = w.getLsbD 2 := by simp
  have sign : (w ^^^ 0x08#8).getLsbD 3 = !w.getLsbD 3 := by simp
  unfold unpackCfg
  rw [high, sel, level, sign]
  split
  · split
    · cases w.getLsbD 3 <;> rfl
    · rfl
  · rfl

theorem presentedCfg_mirror (p : CfgIn) : presentedCfg (mirrorCfgIn p) = (presentedCfg p).map mirrorCfg := by
  cases p with
  | record k =>
    simp only [mirrorCfgIn, presentedCfg, cfgLegal_mirrorCfg]
    split <;> rfl
  | packed w poll deb err =>
    simp only [mirrorCfgIn, presentedCfg, unpackCfg_mirror]
    cases unpackCfg w poll deb err with
    | none => rfl
    | some k =>
      simp only [Option.map_some, cfgLegal_mirrorCfg]
      split <;> rfl

theorem presentedInterval_mirror (p : CfgIn) : presentedInterval (mirrorCfgIn p) = presentedInterval p := by
  cases p <;> rfl

/-! ## The mirror and the sub-steps of a poll -/

section Fields

variable (s : State)

@[simp] theorem mirror_mode : s.mirror.mode = s.mode := rfl
@[simp] theorem mirror_now : s.mirror.now = s.now := rfl
@[simp] theorem mirror_cfgIn : s.mirror.cfgIn = mirrorCfgIn s.cfgIn := rfl
@[simp] theorem mirror_params : s.mirror.params = s.params := rfl
@[simp] theorem mirror_inputs : s.mirror.inputs = s.inputs.map mirrorInput := rfl
@[simp] theorem mirror_turns : s.mirror.turns = s.turns := rfl

theorem tickInterval_mirror : tickInterval s.mirror = tickInterval s := by
  unfold tickInterval
  rw [mirror_mode, mirror_cfgIn, presentedInterval_mirror]
  rfl

theorem drainsOpen_mirror : drainsOpen s.mirror = drainsOpen s := rfl

theorem startBusy_mirror : startBusy s.mirror = startBusy s := rfl

end Fields

/-- The mirror of an operation's result; a fault stays the same fault. -/
def mirrorResult (r : Except Fault State) : Except Fault State := r.map State.mirror

@[simp] theorem mirrorResult_ok (s : State) : mirrorResult (.ok s) = .ok s.mirror := rfl

@[simp] theorem mirrorResult_error (f : Fault) : mirrorResult (.error f) = .error f := rfl

theorem respond_mirror (r : Rsp) (s : State) :
    respond (mirrorRsp r).status (mirrorRsp r).value s.mirror = (respond r.status r.value s).mirror := rfl

theorem countError_mirror (e : Bool) (s : State) : countError e s.mirror = (countError e s).mirror := rfl

theorem btn_mirror (sw : Bool) (s : State) : btn sw s.mirror = (btn sw s).mirror := by
  rw [btn_eq, btn_eq]; rfl

theorem applyRow_mirror (i : Nibble) (s : State) : applyRow i s.mirror = (applyRow i s).mirror := by
  have negDelta : -s.accum + -s.cfg.dir * tt i = -(s.accum + s.cfg.dir * tt i) := by ring
  simp only [applyRow, State.mirror, mirrorCfg, negDelta]

theorem qdec_mirror (c d : Bool) (s : State) : qdec c d s.mirror = (qdec c d s).mirror :=
  applyRow_mirror (tableIndex s.prevState (packState c d)) s

/-- `DETENT` moves as many detents the other way. -/
theorem detent_mirror {s : State} (hw : s.params.stepsW = none) : detent s.mirror = mirrorResult (detent s) := by
  have fits (u : State) (hu : u.params.stepsW = none) (v : Int) : stepsFits u.params.stepsW v = true := by
    rw [hu]; rfl
  rw [detent_of_fits fun _ => fits s hw _, detent_of_fits fun _ => fits s.mirror hw _]
  simp only [State.mirror, mirrorCfg, Int.natAbs_neg, trunc_neg]
  split
  · have negSteps : -s.steps + -trunc s.accum s.cfg.ppr = -(s.steps + trunc s.accum s.cfg.ppr) := by ring
    have negAccum : -s.accum - -trunc s.accum s.cfg.ppr * s.cfg.ppr
        = -(s.accum - trunc s.accum s.cfg.ppr * s.cfg.ppr) := by ring
    rw [negSteps, negAccum]; rfl
  · rfl

theorem decodeSample_mirror (l : Levels) {s : State} (hw : s.params.stepsW = none) :
    decodeSample l s.mirror = mirrorResult (decodeSample l s) := by
  have hq : (qdec l.clk l.dt s).params.stepsW = none := hw
  unfold decodeSample
  rw [qdec_mirror, detent_mirror hq]
  cases detent (qdec l.clk l.dt s) with
  | ok t => exact congrArg Except.ok (btn_mirror l.sw t)
  | error f => rfl

theorem pollIteration_mirror (e c d b : Bool) {s : State} (hw : s.params.stepsW = none) :
    pollIteration e c d b s.mirror = mirrorResult (pollIteration e c d b s) := by
  cases hs : s.stopFlag with
  | true => rw [pollIteration_stops hs, pollIteration_stops (s := s.mirror) hs]; rfl
  | false =>
    cases he : errLimitHit e s with
    | true => rw [pollIteration_disables hs he, pollIteration_disables (s := s.mirror) hs he]; rfl
    | false =>
      rw [pollIteration_decodes hs he, pollIteration_decodes (s := s.mirror) hs he, countError_mirror]
      exact decodeSample_mirror _ (s := countError e s) hw

theorem advanceTime_mirror (s : State) : advanceTime s.mirror = mirrorResult (advanceTime s) := by
  unfold advanceTime
  rw [tickInterval_mirror, mirror_params, mirror_now]
  split <;> rfl

theorem pollTick_mirror (e c d b : Bool) {s : State} (hw : s.params.stepsW = none) :
    pollTick e c d b s.mirror = mirrorResult (pollTick e c d b s) := by
  unfold pollTick
  rw [advanceTime_mirror]
  cases ht : advanceTime s with
  | error f => rfl
  | ok t =>
    have htw : t.params.stepsW = none := by rw [(advanceTime_ok ht).2]; exact hw
    by_cases hr : t.mode = .running
    · simp only [mirrorResult_ok, mirror_mode, hr, ↓reduceIte]
      exact pollIteration_mirror e c d b htw
    · simp only [mirrorResult_ok, mirror_mode, hr, ↓reduceIte]

/-! ## The mirror and the host's commands -/

theorem drainSteps_mirror (s : State) :
    drainSteps s.mirror = (mirrorRsp (drainSteps s).1, (drainSteps s).2.mirror) := by
  unfold drainSteps
  rw [drainsOpen_mirror]
  split <;> rfl

theorem drainPress_mirror (s : State) :
    drainPress s.mirror = (mirrorRsp (drainPress s).1, (drainPress s).2.mirror) := by
  unfold drainPress
  rw [drainsOpen_mirror]
  split <;> rfl

theorem closeBlock_mirror (s : State) : closeBlock s.mirror = (closeBlock s).mirror := by
  cases hm : s.mode <;> simp [closeBlock, hm, State.mirror]

theorem rspSteps_mirrorRsp (r : Rsp) : rspSteps (mirrorRsp r) = -rspSteps r := by
  obtain ⟨status, value⟩ := r
  cases status with
  | ok => obtain _ | (_ | _ | _) := value <;> rfl
  | notReady | busy | badCmd | badCfg => rfl

theorem rspPress_mirrorRsp (r : Rsp) : rspPress (mirrorRsp r) = rspPress r := by
  obtain ⟨status, value⟩ := r
  cases status with
  | ok => obtain _ | (_ | _ | _) := value <;> rfl
  | notReady | busy | badCmd | badCfg => rfl

/-! ## The mirror and a burst -/

theorem freeTick_mirror {s : State} (hw : s.params.stepsW = none) : freeTick s.mirror = mirrorResult (freeTick s) :=
  pollTick_mirror _ _ _ _ (s := { s with draws := s.draws + 1 }) hw

theorem environmentTick_mirror {s : State} (hw : s.params.stepsW = none) :
    environmentTick s.mirror = mirrorResult (environmentTick s) := by
  unfold environmentTick
  rw [mirror_inputs]
  obtain _ | ⟨_ | _ | _, rest⟩ := s.inputs
  case nil => exact freeTick_mirror hw
  case cons.burst => exact freeTick_mirror hw
  case cons.configure => exact freeTick_mirror hw
  case cons.event w =>
    simp only [List.map_cons, mirrorInput]
    split
    · exact pollTick_mirror _ _ _ _ (s := { s with inputs := rest }) hw
    · exact freeTick_mirror hw

theorem runTicks_mirror (n : Nat) {s : State} (hw : s.params.stepsW = none) :
    runTicks n s.mirror = mirrorResult (runTicks n s) := by
  induction n generalizing s with
  | zero => rfl
  | succ n ih =>
    unfold runTicks
    rw [environmentTick_mirror hw]
    cases ht : environmentTick s with
    | error f => rfl
    | ok t => exact ih (by rw [environmentTick_params ht, hw])

theorem takeTurn_mirror (s : State) : takeTurn s.mirror = ((takeTurn s).1, (takeTurn s).2.mirror) := by
  unfold takeTurn
  rw [mirror_turns]
  cases s.turns <;> rfl

theorem waitTicks_mirror (s : State) : waitTicks s.mirror = ((waitTicks s).1, (waitTicks s).2.mirror) := by
  unfold waitTicks
  simp only [tickInterval_mirror, takeTurn_mirror, mirror_params]
  split <;> rfl

theorem burstWait_mirror {s : State} (hw : s.params.stepsW = none) :
    burstWait s.mirror = mirrorResult (burstWait s) := by
  unfold burstWait
  rw [waitTicks_mirror]
  exact runTicks_mirror _ (by rw [waitTicks_params, hw])

theorem burstGap_mirror {s : State} (hw : s.params.stepsW = none) :
    burstGap s.mirror = mirrorResult (burstGap s) := by
  unfold burstGap
  rw [takeTurn_mirror]
  exact runTicks_mirror _ (by rw [takeTurn_params, hw])

/-- A tally of the mirrored block: the same presses, the detents the other way. -/
def mirrorTally (a : Tally) : Tally := { a with total := -a.total }

/-- The mirror of what one or more pairs of a `BURST` leave. -/
def mirrorPairs (r : Except Fault (Tally × State)) : Except Fault (Tally × State) :=
  r.map fun p => (mirrorTally p.1, p.2.mirror)

theorem burstPair_mirror (a : Tally) {s : State} (hw : s.params.stepsW = none) :
    burstPair (mirrorTally a) s.mirror = mirrorPairs (burstPair a s) := by
  have hd : (respond (drainSteps s).1.status (drainSteps s).1.value (drainSteps s).2).params.stepsW = none := by
    rw [respond_params, drainSteps_params, hw]
  unfold burstPair
  simp only [drainSteps_mirror, respond_mirror, burstGap_mirror hd]
  cases burstGap (respond (drainSteps s).1.status (drainSteps s).1.value (drainSteps s).2) with
  | error f => rfl
  | ok t =>
    simp only [mirrorResult_ok, mirrorTally, mirrorPairs, Except.map, drainPress_mirror, respond_mirror,
      rspSteps_mirrorRsp, rspPress_mirrorRsp, neg_add]

theorem burstPairs_mirror (n : Nat) (a : Tally) {s : State} (hw : s.params.stepsW = none) :
    burstPairs n (mirrorTally a) s.mirror = mirrorPairs (burstPairs n a s) := by
  induction n generalizing a s with
  | zero => rfl
  | succ n ih =>
    unfold burstPairs
    rw [burstPair_mirror a hw]
    cases hp : burstPair a s with
    | error f => rfl
    | ok p =>
      obtain ⟨a', t⟩ := p
      have ht : t.params.stepsW = none := by rw [burstPair_params hp, hw]
      cases n with
      | zero => rfl
      | succ m =>
        simp only [mirrorPairs, Except.map, burstWait_mirror ht]
        cases hu : burstWait t with
        | error f => rfl
        | ok u => exact ih a' (by rw [burstWait_params hu, ht])

/-! ## The mirror and a step -/

/-- The mirror of a step's outcome: the next state mirrored, a stop unchanged. -/
def mirrorOutcome : Host.Outcome State Fault Refusal → Host.Outcome State Fault Refusal
  | .next t => .next t.mirror
  | .fault f => .fault f
  | .refused r => .refused r

theorem outcomeOf_mirrorResult (r : Except Fault State) : outcomeOf (mirrorResult r) = mirrorOutcome (outcomeOf r) := by
  cases r <;> rfl

theorem execStart_mirror (e c d b : Bool) (s : State) :
    execStart e c d b s.mirror = mirrorOutcome (execStart e c d b s) := by
  unfold execStart
  rw [startBusy_mirror, mirror_cfgIn, presentedCfg_mirror]
  split
  · rfl
  · cases presentedCfg s.cfgIn <;> rfl

theorem execBurst_mirror {s : State} (hw : s.params.stepsW = none) :
    execBurst s.mirror = mirrorOutcome (execBurst s) := by
  have pairs : burstPairs s.params.nSamples { total := 0, any := false } s.mirror
      = mirrorPairs (burstPairs s.params.nSamples { total := 0, any := false } s) := by
    simpa only [mirrorTally, neg_zero] using burstPairs_mirror s.params.nSamples { total := 0, any := false } hw
  unfold execBurst
  rw [mirror_params, pairs]
  cases burstPairs s.params.nSamples { total := 0, any := false } s <;> rfl

theorem exec_mirror (i : Instr) {s : State} (hw : s.params.stepsW = none) :
    exec i s.mirror = mirrorOutcome (exec i s) := by
  cases i with
  | poll e c d b => rw [exec_poll, exec_poll, pollTick_mirror e c d b hw, outcomeOf_mirrorResult]
  | start e c d b => exact execStart_mirror e c d b s
  | rdsteps => rw [exec_rdsteps, exec_rdsteps, drainSteps_mirror]; rfl
  | rdpress => rw [exec_rdpress, exec_rdpress, drainPress_mirror]; rfl
  | close => rw [exec_close, exec_close, closeBlock_mirror]; rfl
  | rdstat => rfl
  | burst => exact execBurst_mirror hw
  | qd00_00 | qd00_01 | qd00_10 | qd00_11 | qd01_00 | qd01_01 | qd01_10 | qd01_11 | qd10_00 | qd10_01 | qd10_10
  | qd10_11 | qd11_00 | qd11_01 | qd11_10 | qd11_11 => exact congrArg Host.Outcome.next (applyRow_mirror _ s)

theorem step_mirror {s : State} (hw : s.params.stepsW = none) : step s.mirror = mirrorOutcome (step s) := by
  have mirrored : s.mirror.inputs = s.inputs.map mirrorInput := mirror_inputs s
  cases hi : s.inputs with
  | nil =>
    rw [hi] at mirrored
    rw [step_ended hi, step_ended mirrored]; rfl
  | cons entry rest =>
    rw [hi] at mirrored
    cases entry with
    | event w =>
      rw [step_event hi, step_event mirrored]
      cases decodeE8 w with
      | ok i => exact exec_mirror i (s := { s with inputs := rest }) hw
      | error r => rfl
    | burst =>
      rw [step_burst hi, step_burst mirrored]
      exact exec_mirror .burst (s := { s with inputs := rest }) hw
    | configure k => rw [step_configure hi, step_configure mirrored]; rfl

/-- Settles O58, by the mirror of each operation. -/
theorem signSymmetry : Obligations.SignSymmetry := by
  intro s hw
  rw [step_mirror hw]
  cases step s <;> rfl

end Sys2Proof.Machine

/-! # What one step can do (20_memory.md rule R57, 30_encoding.md rules R75 and R76)

`StepEffect` lists the effects of a step once, with what is known where each arises; `step_effect` says that there are
no others. `execBurst_rel` carries a relation across a whole `BURST`, and `step_rel` across any step. -/

namespace Sys2Proof.Machine

/-- Two states are equal but for the model's inputs and records, which no element of the spec's state depends on once
it is written. -/
abbrev agreeButRecords (s t : State) : Prop :=
  t = { s with
        cfgIn := t.cfgIn, inputs := t.inputs, turns := t.turns, draws := t.draws
        observed := t.observed, burstResult := t.burstResult }

/-- The eight counters do not exist: the block has not been started, or has stopped (rule R37). -/
abbrev State.dormant (s : State) : Prop := s.mode = .idle ∨ s.mode = .stopped

/-! ## The sub-steps -/

section SubSteps

variable {s t : State} {e c d b : Bool}

/-- An event word is a tick or one of the five host commands (rule R76). -/
theorem decodeE8_ok {w : Byte} {i : Instr} (h : decodeE8 w = .ok i) :
    (∃ e c d b, i = .poll e c d b) ∨ (∃ e c d b, i = .start e c d b) ∨
      i = .rdsteps ∨ i = .rdpress ∨ i = .close ∨ i = .rdstat := by
  unfold decodeE8 at h
  simp only at h
  split_ifs at h <;> cases h <;> simp

/-- Outside `RUNNING` a tick is the advance of time alone (rule R104). -/
theorem pollTick_of_ne_running (h : s.mode ≠ .running) : pollTick e c d b s = advanceTime s := by
  unfold pollTick
  cases ha : advanceTime s with
  | error f => rfl
  | ok u =>
    have hu : u.mode ≠ .running := by rw [(advanceTime_ok ha).2]; exact h
    simp [hu]

/-- In `IDLE` the tick period is that of the presented configuration (log entry 6). -/
theorem tickInterval_of_idle (h : s.mode = .idle) : tickInterval s = presentedInterval s.cfgIn := by
  simp [tickInterval, h]

theorem errLimitHit_eq_true : errLimitHit e s = true ↔ e = true ∧ s.cfg.errLimit ≤ s.errCount + 1 := by
  simp [errLimitHit]

theorem State.dormant.ne_running (h : s.dormant) : s.mode ≠ .running := by
  rcases h with h | h <;> simp [h]

theorem startBusy_eq_false : startBusy s = false ↔ s.dormant := by
  cases h : s.mode <;> simp [startBusy, State.dormant, h]

theorem drainsOpen_of_dormant (h : s.dormant) : drainsOpen s = false := by
  rcases h with h | h <;> simp [drainsOpen, h]

/-- A poll iteration leaves the block running exactly by decoding its sample. -/
theorem pollIteration_running (h : pollIteration e c d b s = .ok t) (hs : s.mode = .running) (ht : t.mode = .running) :
    reachesDecode e s = true ∧
      ∃ u, detent (qdec (sampleLevels e c d b).clk (sampleLevels e c d b).dt (countError e s)) = .ok u ∧
        t = btn (sampleLevels e c d b).sw u := by
  obtain ⟨-, rfl⟩ | ⟨-, -, rfl⟩ | ⟨hstop, hlim, hu⟩ := pollIteration_ok h
  · cases ht
  · cases ht
  · exact ⟨by simp [reachesDecode, hs, hstop, hlim], hu⟩

/-- A tick that leaves the block running decodes its sample at the new time. -/
theorem pollTick_running_ok (h : pollTick e c d b s = .ok t) (hs : s.mode = .running) (ht : t.mode = .running) :
    reachesDecode e s = true ∧
      ∃ u, detent (qdec (sampleLevels e c d b).clk (sampleLevels e c d b).dt
          (countError e { s with now := s.now + tickInterval s })) = .ok u ∧
        t = btn (sampleLevels e c d b).sw u := by
  obtain ⟨-, ⟨hne, -⟩ | ⟨-, hi⟩⟩ := pollTick_ok h
  · exact absurd hs hne
  · exact pollIteration_running hi hs ht

/-- A detent moves transitions between `accum` and `steps` and loses none (rule R139). -/
theorem detent_conserves (h : detent s = .ok t) :
    t.steps * s.cfg.ppr + t.accum = s.steps * s.cfg.ppr + s.accum := by
  obtain ⟨-, rfl⟩ | ⟨-, -, rfl⟩ := detent_ok h
  · rfl
  · ring

/-- `DETENT` writes `accum` and `steps` alone. -/
theorem detent_frame (h : detent s = .ok t) : t = { s with accum := t.accum, steps := t.steps } := by
  obtain ⟨-, rfl⟩ | ⟨-, -, rfl⟩ := detent_ok h <;> rfl

/-- An iteration takes no time: the tick has advanced `now` before it (rule R100). -/
theorem pollIteration_now (h : pollIteration e c d b s = .ok t) : t.now = s.now := by
  obtain ⟨-, rfl⟩ | ⟨-, -, rfl⟩ | ⟨-, -, u, hu, rfl⟩ := pollIteration_ok h
  · rfl
  · rfl
  · rw [btn_eq, detent_frame hu]; rfl

theorem pollTick_now (h : pollTick e c d b s = .ok t) : t.now = s.now + tickInterval s := by
  obtain ⟨-, ⟨-, rfl⟩ | ⟨-, hi⟩⟩ := pollTick_ok h
  · rfl
  · exact pollIteration_now hi

/-- A tick keeps `mode`, or stops or disables a running block. -/
theorem pollTick_mode (h : pollTick e c d b s = .ok t) :
    t.mode = s.mode ∨ (s.mode = .running ∧ (t.mode = .disabled ∨ t.mode = .stopped)) := by
  obtain ⟨-, ⟨-, rfl⟩ | ⟨hr, hi⟩⟩ := pollTick_ok h
  · exact .inl rfl
  obtain ⟨-, rfl⟩ | ⟨-, -, rfl⟩ | ⟨-, -, u, hu, rfl⟩ := pollIteration_ok hi
  · exact .inr ⟨hr, .inr rfl⟩
  · exact .inr ⟨hr, .inl rfl⟩
  · left; rw [btn_eq, detent_frame hu]; rfl

theorem closeBlock_now (s : State) : (closeBlock s).now = s.now := by
  cases h : s.mode <;> simp [closeBlock, h]

/-- `CLOSE` stops a disabled block at once and leaves the other modes as they are (rule R173). -/
theorem closeBlock_mode (s : State) :
    (closeBlock s).mode = if s.mode = .disabled then .stopped else s.mode := by
  cases h : s.mode <;> simp [closeBlock, h]

/-- `CLOSE` writes none of the elements that a sample or a drain writes. -/
theorem closeBlock_frame (s : State) :
    closeBlock s =
      { s with stopFlag := (closeBlock s).stopFlag, mode := (closeBlock s).mode, linesOpen := false } := by
  cases h : s.mode <;> simp [closeBlock, h]

end SubSteps

/-! ## The effects of a step -/

/-- What a step from `s` can leave. The entry that it took from the stream stands in each case. -/
inductive StepEffect (s : State) : State → Prop
  /-- The run has ended (rule R233). -/
  | ended (hin : s.inputs = []) : StepEffect s s
  /-- A sampler tick. -/
  | polled {w : Byte} {rest : List Input} {e c d b : Bool} {t : State} (hin : s.inputs = .event w :: rest)
      (hw : decodeE8 w = .ok (.poll e c d b)) (ht : pollTick e c d b { s with inputs := rest } = .ok t) : StepEffect s t
  /-- An accepted `START`. -/
  | started {w : Byte} {rest : List Input} {e c d b : Bool} {r : Cfg} (hin : s.inputs = .event w :: rest)
      (hw : decodeE8 w = .ok (.start e c d b)) (hmode : s.dormant)
      (hcfg : presentedCfg s.cfgIn = some r) :
      StepEffect s (respond .ok none (startWith r (sampleLevels e c d b) { s with inputs := rest }))
  /-- A response and nothing else: `RDSTAT`, a `START` turned away, or a reserved word. -/
  | answered {w : Byte} {rest : List Input} {status : Status} {value : Option RspValue}
      (hin : s.inputs = .event w :: rest) (hw : ∀ e c d b, decodeE8 w ≠ .ok (.poll e c d b))
      (hvalue : value = none ∨ value = some (.stat (statWord s))) :
      StepEffect s (respond status value { s with inputs := rest })
  /-- `RDSTEPS`. -/
  | stepsRead {w : Byte} {rest : List Input} (hin : s.inputs = .event w :: rest) (hw : decodeE8 w = .ok .rdsteps) :
      StepEffect s
        (respond (drainSteps { s with inputs := rest }).1.status (drainSteps { s with inputs := rest }).1.value
          (drainSteps { s with inputs := rest }).2)
  /-- `RDPRESS`. -/
  | pressRead {w : Byte} {rest : List Input} (hin : s.inputs = .event w :: rest) (hw : decodeE8 w = .ok .rdpress) :
      StepEffect s
        (respond (drainPress { s with inputs := rest }).1.status (drainPress { s with inputs := rest }).1.value
          (drainPress { s with inputs := rest }).2)
  /-- `CLOSE`. -/
  | closed {w : Byte} {rest : List Input} (hin : s.inputs = .event w :: rest) (hw : decodeE8 w = .ok .close) :
      StepEffect s (respond .ok none (closeBlock { s with inputs := rest }))
  /-- The host sets the configuration port. -/
  | configured {k : CfgIn} {rest : List Input} (hin : s.inputs = .configure k :: rest) :
      StepEffect s (presentCfg k { s with inputs := rest })
  /-- A call of `BURST`. -/
  | burst {rest : List Input} {t : State} (hin : s.inputs = .burst :: rest)
      (ht : execBurst { s with inputs := rest } = .next t) : StepEffect s t

/-- `START` is accepted, or it is answered with no other effect (rule R170). -/
theorem execStart_next {s t : State} {e c d b : Bool} (h : execStart e c d b s = .next t) :
    (s.dormant ∧
      ∃ r, presentedCfg s.cfgIn = some r ∧ t = respond .ok none (startWith r (sampleLevels e c d b) s)) ∨
    ∃ status, t = respond status none s := by
  unfold execStart at h
  split at h
  next => cases h; exact .inr ⟨_, rfl⟩
  next hb =>
    split at h
    next r hr => cases h; exact .inl ⟨startBusy_eq_false.mp (by simpa using hb), r, hr, rfl⟩
    next => cases h; exact .inr ⟨_, rfl⟩

/-- Every step has one of the effects listed. -/
theorem step_effect {s t : State} (h : step s = .next t) : StepEffect s t := by
  cases hin : s.inputs with
  | nil => rw [step_ended hin] at h; cases h; exact .ended hin
  | cons entry rest =>
    cases entry with
    | configure k => rw [step_configure hin] at h; cases h; exact .configured hin
    | burst => rw [step_burst hin, exec_burst] at h; exact .burst hin h
    | event w =>
      rw [step_event hin] at h
      cases hw : decodeE8 w with
      | error r => rw [hw] at h; cases h; exact .answered hin (by simp [hw]) (.inl rfl)
      | ok i =>
        simp only [hw] at h
        obtain ⟨e, c, d, b, rfl⟩ | ⟨e, c, d, b, rfl⟩ | rfl | rfl | rfl | rfl := decodeE8_ok hw
        · exact .polled hin hw (outcomeOf_next h)
        · obtain ⟨hm, r, hr, rfl⟩ | ⟨status, rfl⟩ := execStart_next h
          · exact .started hin hw hm hr
          · exact .answered hin (by simp [hw]) (.inl rfl)
        · cases h; exact .stepsRead hin hw
        · cases h; exact .pressRead hin hw
        · cases h; exact .closed hin hw
        · cases h; exact .answered hin (by simp [hw]) (.inr rfl)

/-! ## Relations across a step -/

section Relations

variable {R : State → State → Prop} (trans : ∀ s t u, R s t → R t u → R s u)
  (records : ∀ s t, agreeButRecords s t → R s t)
  (poll : ∀ e c d b s t, pollTick e c d b s = .ok t → R s t)
  (readSteps : ∀ s, R s (drainSteps s).2) (readPress : ∀ s, R s (drainPress s).2)

include trans records poll readSteps readPress

/-- A composing relation that a tick, a drain and a change of the records give holds across a `BURST`. -/
theorem execBurst_rel {s t : State} (h : execBurst s = .next t) : R s t := by
  have tick (s t : State) (ht : environmentTick s = .ok t) : R s t := by
    obtain ⟨e, c, d, b, u, hu, ⟨w, rest, -, -, rfl⟩ | rfl⟩ := environmentTick_ok ht
    · exact trans _ _ _ (records _ _ rfl) (poll _ _ _ _ _ _ hu)
    · exact trans _ _ _ (records _ _ rfl) (poll _ _ _ _ _ _ hu)
  unfold execBurst at h
  split at h
  next a u hp =>
    cases h
    have pairs : R s u :=
      burstPairs_rel R (fun s => records s s rfl) trans tick (fun _ _ => records _ _ rfl)
        (fun s => trans _ _ _ (readSteps s) (records _ _ rfl))
        (fun s => trans _ _ _ (readPress s) (records _ _ rfl)) _ _ _ _ _ hp
    exact trans _ _ _ pairs (records _ _ rfl)
  next => cases h

/-- A composing relation that `START` and `CLOSE` give as well holds across every step. -/
theorem step_rel
    (start : ∀ s r l, s.dormant → presentedCfg s.cfgIn = some r → R s (startWith r l s))
    (close : ∀ s, R s (closeBlock s)) {s t : State} (h : step s = .next t) : R s t := by
  have pop {s t : State} {rest : List Input} (h : R { s with inputs := rest } t) : R s t :=
    trans _ _ _ (records _ _ rfl) h
  have answer {s t : State} {status : Status} {value : Option RspValue} (h : R s t) : R s (respond status value t) :=
    trans _ _ _ h (records _ _ rfl)
  cases step_effect h with
  | ended hin => exact records _ _ rfl
  | polled hin hw ht => exact pop (poll _ _ _ _ _ _ ht)
  | started hin hw hmode hcfg => exact answer (pop (start _ _ _ hmode hcfg))
  | answered hin hw hvalue => exact records _ _ rfl
  | stepsRead hin hw => exact answer (pop (readSteps _))
  | pressRead hin hw => exact answer (pop (readPress _))
  | closed hin hw => exact answer (pop (close _))
  | configured hin => exact records _ _ rfl
  | burst hin ht => exact pop (execBurst_rel trans records poll readSteps readPress ht)

end Relations

end Sys2Proof.Machine

/-! # The invariant of the block (10_state.md rules R22 to R35, 43_host_commands.md rule R176)

Each operation keeps `State.Inv`, and `step_rel` carries that to every step. The decode step is the one place where an
element leaves its range in between: `QDEC` may bring `accum` to one detent, and `DETENT` takes it back. -/

namespace Sys2Proof.Machine

/-! ## Legal configurations -/

theorem cfgLegal_iff (r : Cfg) :
    cfgLegal r = true ↔
      (r.ppr = 1 ∨ r.ppr = 2 ∨ r.ppr = 4) ∧ (r.dir = 1 ∨ r.dir = -1) ∧ 0 < r.pollInterval ∧ 1 ≤ r.errLimit := by
  simp only [cfgLegal, Bool.and_eq_true, Bool.or_eq_true, beq_iff_eq, decide_eq_true_eq, and_assoc, or_assoc]

theorem ppr_pos_of_cfgLegal {r : Cfg} (h : cfgLegal r = true) : 0 < r.ppr := by
  obtain ⟨hppr, -⟩ := (cfgLegal_iff r).mp h
  omega

theorem errLimit_pos_of_cfgLegal {r : Cfg} (h : cfgLegal r = true) : 0 < r.errLimit := by
  obtain ⟨-, -, -, hlimit⟩ := (cfgLegal_iff r).mp h
  exact hlimit

/-- Only a legal configuration is presented (rule R80 c). -/
theorem cfgLegal_of_presentedCfg {p : CfgIn} {r : Cfg} (h : presentedCfg p = some r) : cfgLegal r = true := by
  unfold presentedCfg at h
  split at h
  next k =>
    split at h
    next hk => cases h; exact hk
    next => cases h
  next =>
    split at h
    next k _ =>
      split at h
      next hk => cases h; exact hk
      next => cases h
    next => cases h

/-- Settles O32: the legality test of `START`, read as a proposition. -/
theorem legalConfigurationsAccepted : Obligations.LegalConfigurationsAccepted := by
  intro r
  simp only [presentedCfg, cfgLegal_iff]

/-! ## The sub-steps and the commands keep the invariant -/

/-- Before the first `START` and after the block stopped, the invariant says what the flags are. -/
theorem State.inv_of_dormant {s : State} (hmode : s.dormant)
    (hstop : s.stopFlag = true ↔ s.mode = .stopped) (hlines : s.linesOpen = false)
    (htime : timeFits s.params.timeW s.now = true) : s.Inv := by
  have inactive : ¬ s.active := by rcases hmode with h | h <;> simp [State.active, h]
  exact {
    cfg_legal := fun h => absurd h inactive
    accum_range := fun h => absurd h inactive
    steps_fit := fun h => absurd h inactive
    change_past := fun h => absurd h inactive
    blocked_active := fun h => absurd h inactive
    err_below := fun h => absurd (.inl h) inactive
    err_at := fun h => absurd (.inr h) inactive
    disabled_empty := fun h => absurd (.inr h) inactive
    stop_clear := fun h => by rcases h with h | h <;> simp_all
    stop_set := hstop.mpr
    lines_held := by simp [hlines, inactive]
    time_fits := htime }

/-- Settles O48. -/
theorem invariantAtReset : Obligations.InvariantAtReset :=
  State.inv_of_dormant (.inl rfl) (by decide) rfl rfl

namespace State.Inv

variable {s t : State}

/-- The invariant reads no record. -/
theorem of_records (ht : agreeButRecords s t) (h : s.Inv) : t.Inv := by
  rw [ht]
  exact ⟨h.cfg_legal, h.accum_range, h.steps_fit, h.change_past, h.blocked_active, h.err_below, h.err_at,
    h.disabled_empty, h.stop_clear, h.stop_set, h.lines_held, h.time_fits⟩

protected theorem advance {n : Nat} (h : s.Inv) (hn : timeFits s.params.timeW (s.now + n) = true) :
    ({ s with now := s.now + n } : State).Inv :=
  { h with change_past := fun ha => (h.change_past ha).trans (Nat.le_add_right _ _), time_fits := hn }

protected theorem stopSampler (h : s.Inv) (hstop : s.stopFlag = true) : (stopSampler s).Inv := by
  refine State.inv_of_dormant (.inr rfl) (by simp [hstop]) ?_ h.time_fits
  have closed : ¬ s.linesOpen = true := fun hl => by simpa [hstop] using (h.lines_held.mp hl).2
  simpa using closed

/-- The soft disable meets the limit exactly, since the poll before it was below the limit (rule R192). -/
protected theorem softDisable {e : Bool} (h : s.Inv) (hr : s.mode = .running) (hstop : s.stopFlag = false)
    (hlim : errLimitHit e s = true) : (softDisable (countError e s)).Inv := by
  have active : s.active := .inl hr
  obtain ⟨he, hreach⟩ := errLimitHit_eq_true.mp hlim
  have below := h.err_below hr
  exact {
    cfg_legal := fun _ => h.cfg_legal active
    accum_range := fun _ => h.accum_range active
    steps_fit := fun _ => stepsFits_zero _
    change_past := fun _ => h.change_past active
    blocked_active := fun _ => h.blocked_active active
    err_below := fun hm => by cases hm
    err_at := fun _ => by
      simp only [softDisable_errCount, softDisable_cfg, countError_errCount, countError_cfg, he, if_true]
      omega
    disabled_empty := fun _ => ⟨rfl, rfl⟩
    stop_clear := fun _ => hstop
    stop_set := fun hm => by cases hm
    lines_held := by simp [h.lines_held, State.active, hr]
    time_fits := h.time_fits }

/-- Below the limit the error count of a running block may be rewritten. -/
protected theorem countError {e : Bool} (h : s.Inv) (hr : s.mode = .running) (hlim : errLimitHit e s = false) :
    (countError e s).Inv := by
  have below : (countError e s).errCount < s.cfg.errLimit := by
    cases e with
    | false => exact errLimit_pos_of_cfgLegal (h.cfg_legal (.inl hr))
    | true => simpa [errLimitHit] using hlim
  exact { h with err_below := fun _ => below, err_at := fun hm => by simp [hr] at hm }

end State.Inv

/-- What `DETENT` leaves in `accum` is short of one detent: it is a remainder of truncated division (rule R35). -/
theorem detent_accumInRange {s t : State} (hp : 0 < s.cfg.ppr) (h : detent s = .ok t) : t.accumInRange := by
  obtain ⟨hlt, rfl⟩ | ⟨-, -, rfl⟩ := detent_ok h
  · constructor <;> omega
  · have lower := Int.lt_tmod_of_pos s.accum hp
    have upper := Int.tmod_lt_of_pos s.accum hp
    have rem : s.accum - trunc s.accum s.cfg.ppr * s.cfg.ppr = s.accum.tmod s.cfg.ppr := by
      rw [trunc, Int.tmod_def, mul_comm]
    constructor <;> simp only [rem] <;> omega

theorem detent_stepsFits {s t : State} (hs : stepsFits s.params.stepsW s.steps = true) (h : detent s = .ok t) :
    stepsFits t.params.stepsW t.steps = true := by
  obtain ⟨-, rfl⟩ | ⟨-, hfit, rfl⟩ := detent_ok h
  · exact hs
  · exact hfit

namespace State.Inv

variable {s t : State}

theorem qdec_detent {c d : Bool} (h : s.Inv) (hr : s.mode = .running) (ht : detent (qdec c d s) = .ok t) : t.Inv := by
  have active : s.active := .inl hr
  have range := detent_accumInRange (s := qdec c d s) (ppr_pos_of_cfgLegal (h.cfg_legal active)) ht
  have fits := detent_stepsFits (s := qdec c d s) (h.steps_fit active) ht
  rw [detent_frame ht] at range fits ⊢
  exact { h with
    accum_range := fun _ => range
    steps_fit := fun _ => fits
    disabled_empty := fun hm => absurd (hr.symm.trans hm) (by decide) }

/-- The button step blocks latching only where the level just seen is active (rule R154). -/
protected theorem btn (sw : Bool) (h : s.Inv) (hr : s.mode = .running) : (btn sw s).Inv := by
  have active : s.active := .inl hr
  have change := h.change_past active
  have blocked : ((s.pressBlocked && !releaseEdge sw s) || latchNow sw s) = true → sw = s.cfg.activeLevel := by
    intro hb
    rw [Bool.or_eq_true] at hb
    rcases hb with hkept | hlatch
    · have was := h.blocked_active active
      simp only [releaseEdge, levelChanged, Bool.and_eq_true, Bool.not_eq_true', Bool.and_eq_false_iff,
        bne_eq_false_iff_eq] at hkept
      obtain ⟨hpb, hsame | hlevel⟩ := hkept
      · rw [hsame, was hpb]
      · exact hlevel
    · simp only [latchNow, Bool.and_eq_true, beq_iff_eq] at hlatch
      obtain ⟨⟨hlevel, -⟩, -⟩ := hlatch
      exact hlevel
  rw [btn_eq]
  exact { h with
    change_past := fun _ => by simp only; split <;> omega
    blocked_active := fun _ => blocked
    disabled_empty := fun hm => absurd (hr.symm.trans hm) (by decide) }

protected theorem pollIteration {e c d b : Bool} (h : s.Inv) (hr : s.mode = .running) (ht : pollIteration e c d b s = .ok t) :
    t.Inv := by
  obtain ⟨hstop, rfl⟩ | ⟨hstop, hlim, rfl⟩ | ⟨-, hlim, u, hu, rfl⟩ := pollIteration_ok ht
  · exact h.stopSampler hstop
  · exact h.softDisable hr hstop hlim
  · have hur : u.mode = .running := by rw [detent_frame hu]; exact hr
    exact ((h.countError hr hlim).qdec_detent hr hu).btn _ hur

protected theorem pollTick {e c d b : Bool} (h : s.Inv) (ht : pollTick e c d b s = .ok t) : t.Inv := by
  obtain ⟨hfit, ⟨-, rfl⟩ | ⟨hr, hi⟩⟩ := pollTick_ok ht
  · exact h.advance hfit
  · exact (h.advance hfit).pollIteration hr hi

protected theorem drainSteps (h : s.Inv) : (drainSteps s).2.Inv := by
  rw [drainSteps_state]
  exact { h with
    steps_fit := fun ha => by
      simp only
      split
      · exact stepsFits_zero _
      · exact h.steps_fit ha
    disabled_empty := fun hm => by simp [h.disabled_empty hm] }

protected theorem drainPress (h : s.Inv) : (drainPress s).2.Inv := by
  rw [drainPress_state]
  exact { h with disabled_empty := fun hm => by simp [h.disabled_empty hm] }

/-- The values of rule R37's table meet the invariant. -/
protected theorem startWith {r : Cfg} {l : Levels} (h : s.Inv) (hr : cfgLegal r = true) : (startWith r l s).Inv where
  cfg_legal _ := hr
  accum_range _ := by
    have := ppr_pos_of_cfgLegal hr
    constructor <;> simp only [startWith_accum, startWith_cfg] <;> omega
  steps_fit _ := stepsFits_zero _
  change_past _ := le_rfl
  blocked_active _ hb := by cases hb
  err_below _ := errLimit_pos_of_cfgLegal hr
  err_at hm := by cases hm
  disabled_empty hm := by cases hm
  stop_clear _ := rfl
  stop_set hm := by cases hm
  lines_held := by simp [State.active]
  time_fits := h.time_fits

protected theorem closeBlock (h : s.Inv) : (closeBlock s).Inv := by
  unfold closeBlock
  split
  next hm =>
    exact { h with
      stop_clear := fun hc => by simp [hm] at hc
      stop_set := fun _ => rfl
      lines_held := by simp }
  next => exact State.inv_of_dormant (.inr rfl) (by simp) rfl h.time_fits
  next hm => exact State.inv_of_dormant (.inl hm) (by simp [hm, h.stop_clear (.inl hm)]) rfl h.time_fits
  next hm => exact State.inv_of_dormant (.inr hm) (by simp [hm, h.stop_set hm]) rfl h.time_fits

end State.Inv

/-- Settles O49: each operation keeps the invariant, and `step_rel` puts them together, `BURST` included. -/
theorem stepKeepsInvariant : Obligations.StepKeepsInvariant := by
  intro s t h hstep
  exact step_rel (R := fun s t => s.Inv → t.Inv)
    (trans := fun _ _ _ h₁ h₂ h => h₂ (h₁ h))
    (records := fun _ _ ht h => h.of_records ht)
    (poll := fun _ _ _ _ _ _ ht h => h.pollTick ht)
    (readSteps := fun _ h => h.drainSteps)
    (readPress := fun _ h => h.drainPress)
    (start := fun _ _ _ _ hr h => h.startWith (cfgLegal_of_presentedCfg hr))
    (close := fun _ h => h.closeBlock) hstep h

/-! ## The status word -/

/-- The status word is the stop flag followed by the code of the mode (rule R174). -/
theorem statWord_eq (s : State) : statWord s = BitVec.ofBool s.stopFlag ++ modeCode s.mode := by
  unfold statWord
  cases s.stopFlag <;> cases s.mode <;> rfl

/-- Settles O40: the invariant fixes the stop flag in every mode but `RUNNING`. -/
theorem statusWordValues : Obligations.StatusWordValues := by
  intro s t h ht
  rw [exec_rdstat] at ht
  cases ht
  refine ⟨statWord s, rfl, fun hm => ?_, fun hm hf => ?_, fun hm hf => ?_, fun hm => ?_, fun hm => ?_⟩
  case refine_1 => rw [statWord_eq, hm, h.stop_clear (.inl hm)]; rfl
  case refine_2 => rw [statWord_eq, hm, hf]; rfl
  case refine_3 => rw [statWord_eq, hm, hf]; rfl
  case refine_4 => rw [statWord_eq, hm, h.stop_clear (.inr hm)]; rfl
  case refine_5 => rw [statWord_eq, hm, h.stop_set hm]; rfl

end Sys2Proof.Machine

/-! # Mode, time, latch and the account of transitions (10_state.md rules R24, R30, R32, R36 and R37) -/

namespace Sys2Proof.Machine

/-! ## Mode and time -/

/-- Across a `BURST` the mode stays, or a running block is disabled or stops: no tick starts a block. -/
theorem execBurst_mode {s t : State} (h : execBurst s = .next t) :
    t.mode = s.mode ∨ (s.mode = .running ∧ (t.mode = .disabled ∨ t.mode = .stopped)) := by
  refine execBurst_rel
    (R := fun s t : State => t.mode = s.mode ∨ (s.mode = .running ∧ (t.mode = .disabled ∨ t.mode = .stopped)))
    (trans := fun s t u hst htu => ?_)
    (records := fun _ _ ht => by rw [ht]; exact .inl rfl)
    (poll := fun _ _ _ _ _ _ => pollTick_mode)
    (readSteps := fun _ => by rw [drainSteps_state]; exact .inl rfl)
    (readPress := fun _ => by rw [drainPress_state]; exact .inl rfl) h
  obtain hst | ⟨hrun, hend⟩ := hst
  · rwa [hst] at htu
  · obtain htu | ⟨htrun, -⟩ := htu
    · rw [htu]; exact .inr ⟨hrun, hend⟩
    · simp [htrun] at hend

/-- Settles O51, effect by effect. -/
theorem modeTransitions : Obligations.ModeTransitions := by
  intro s t h
  have byTick {t : State} (ht : t.mode = s.mode ∨ (s.mode = .running ∧ (t.mode = .disabled ∨ t.mode = .stopped))) :
      t.mode = s.mode ∨ (s.mode = .idle ∧ t.mode = .running) ∨ (s.mode = .stopped ∧ t.mode = .running) ∨
        (s.mode = .running ∧ t.mode = .disabled) ∨ (s.mode = .running ∧ t.mode = .stopped) ∨
        (s.mode = .disabled ∧ t.mode = .stopped) := by tauto
  cases step_effect h with
  | ended hin => exact .inl rfl
  | polled hin hw ht =>
    have moved := pollTick_mode ht
    exact byTick moved
  | started hin hw hmode hcfg =>
    rcases hmode with hm | hm
    · exact .inr (.inl ⟨hm, rfl⟩)
    · exact .inr (.inr (.inl ⟨hm, rfl⟩))
  | answered hin hw hvalue => exact .inl rfl
  | stepsRead hin hw => rw [respond_mode, drainSteps_state]; exact .inl rfl
  | pressRead hin hw => rw [respond_mode, drainPress_state]; exact .inl rfl
  | closed hin hw =>
    rw [respond_mode, closeBlock_mode]
    split
    next hm => exact .inr (.inr (.inr (.inr (.inr ⟨hm, rfl⟩))))
    next => exact .inl rfl
  | configured hin => exact .inl rfl
  | burst hin ht =>
    have moved := execBurst_mode ht
    exact byTick moved

theorem step_now_le {s t : State} (h : step s = .next t) : s.now ≤ t.now :=
  step_rel (R := fun s t : State => s.now ≤ t.now)
    (trans := fun _ _ _ => le_trans)
    (records := fun _ _ ht => by rw [ht])
    (poll := fun _ _ _ _ _ _ ht => by rw [pollTick_now ht]; exact Nat.le_add_right _ _)
    (readSteps := fun _ => by rw [drainSteps_state])
    (readPress := fun _ => by rw [drainPress_state])
    (start := fun _ _ _ _ _ => le_rfl)
    (close := fun s => (closeBlock_now s).ge) h

/-- Settles O53: only a tick writes `now`, and no host command is a tick. -/
theorem timeNeverGoesBack : Obligations.TimeNeverGoesBack := by
  refine ⟨fun s t h => step_now_le h, fun i s t hi h => ?_⟩
  obtain rfl | rfl | rfl | rfl | ⟨e, c, d, b, rfl⟩ := hi
  · rw [exec_rdsteps] at h; cases h; rw [respond_now, drainSteps_state]
  · rw [exec_rdpress] at h; cases h; rw [respond_now, drainPress_state]
  · rw [exec_close] at h; cases h; rw [respond_now, closeBlock_now]
  · rw [exec_rdstat] at h; cases h; rfl
  · obtain ⟨-, r, -, rfl⟩ | ⟨status, rfl⟩ := execStart_next h <;> rfl

/-- A tick before the first `START` advances `now` by the presented interval and does nothing else. -/
theorem exec_poll_of_idle {s : State} {e c d b : Bool} (hm : s.mode = .idle)
    (hf : timeFits s.params.timeW (s.now + presentedInterval s.cfgIn) = true) :
    exec (.poll e c d b) s = .next { s with now := s.now + presentedInterval s.cfgIn } := by
  rw [exec_poll, pollTick_of_ne_running (by simp [hm]), advanceTime_of_fits (by rwa [tickInterval_of_idle hm]),
    tickInterval_of_idle hm]
  rfl

/-- Settles O16: both forms of a configuration present their interval. -/
theorem idleTickUsesPresentedInterval : Obligations.IdleTickUsesPresentedInterval := by
  intro s e c d b hm
  refine ⟨fun r hr hf => ?_, fun w p q l hp hf => ?_⟩
  · have interval : presentedInterval s.cfgIn = r.pollInterval := by rw [hr]; rfl
    rw [exec_poll_of_idle hm (by rwa [interval]), interval]
  · have interval : presentedInterval s.cfgIn = p := by rw [hp]; rfl
    rw [exec_poll_of_idle hm (by rwa [interval]), interval]

/-- Settles O30: `START` is not turned away, and `startWith` is the table of rule R37. -/
theorem startResetsEveryElement : Obligations.StartResetsEveryElement := by
  intro s e c d b r hm hr
  have admitted : ¬ startBusy s = true := by simp [startBusy_eq_false.mpr hm]
  rw [exec_start, execStart, if_neg admitted, hr, sampleLevels_eq]
  simp only [startWith, respond, packState_eq]

/-! ## The press latch -/

/-- The decode step sets the latch or leaves it, whatever the button does (90_conflicts.md C8). -/
theorem pollTick_keeps_latch {s t : State} {e c d b : Bool} (h : pollTick e c d b s = .ok t) (hs : s.mode = .running)
    (ht : t.mode = .running) (hl : s.pressLatch = true) : t.pressLatch = true := by
  obtain ⟨-, u, hu, rfl⟩ := pollTick_running_ok h hs ht
  have kept : u.pressLatch = true := by rw [detent_frame hu]; exact hl
  rw [btn_eq]
  simp [kept]

/-- Settles O29, effect by effect: a tick is the one effect that could touch the latch. -/
theorem latchStaysUntilDrained : Obligations.LatchStaysUntilDrained := by
  intro s t w rest hin hpress hs hl h ht
  cases step_effect h with
  | ended hin' => exact hl
  | polled hin' hw hp => exact pollTick_keeps_latch hp hs ht hl
  | started hin' hw hmode hcfg => exact absurd hs hmode.ne_running
  | answered hin' hw hvalue => exact hl
  | stepsRead hin' hw => rw [respond_pressLatch, drainSteps_state]; exact hl
  | pressRead hin' hw =>
    rw [hin] at hin'
    cases hin'
    exact absurd hw hpress
  | closed hin' hw => rw [respond_pressLatch, closeBlock_frame]; exact hl
  | configured hin' => exact hl
  | burst hin' hb => rw [hin] at hin'; cases hin'

/-! ## The account of transitions -/

/-- The detents in the cell, in transitions, with what `accum` holds (rule R36). -/
def State.account (s : State) : Int := s.steps * s.cfg.ppr + s.accum

/-- A step that is no tick decodes nothing. -/
theorem nextDelta_of_not_poll {s : State}
    (h : ∀ w rest, s.inputs = .event w :: rest → ∀ e c d b, decodeE8 w ≠ .ok (.poll e c d b)) : nextDelta s = 0 := by
  unfold nextDelta fetch
  cases hin : s.inputs with
  | nil => rfl
  | cons entry rest =>
    cases entry with
    | burst => rfl
    | configure k => rfl
    | event w =>
      cases hw : decodeE8 w with
      | error r => simp [decode, hw]
      | ok i =>
        simp only [decode, hw]
        split
        next _ _ _ _ _ heq => cases heq; exact absurd hw (h w rest hin _ _ _ _)
        next => rfl

theorem nextDelta_of_event {s : State} {w : Byte} {rest : List Input} (hin : s.inputs = .event w :: rest)
    (hw : ∀ e c d b, decodeE8 w ≠ .ok (.poll e c d b)) : nextDelta s = 0 := by
  refine nextDelta_of_not_poll fun w' rest' hin' => ?_
  rw [hin] at hin'
  cases hin'
  exact hw

/-- What a step whose entry is a tick decodes. -/
theorem nextDelta_poll {s : State} {w : Byte} {rest : List Input} {e c d b : Bool} (hin : s.inputs = .event w :: rest)
    (hw : decodeE8 w = .ok (.poll e c d b)) :
    nextDelta s = if reachesDecode e s then sampleDelta e c d b s else 0 := by
  unfold nextDelta fetch
  rw [hin]
  simp only [decode, hw]
  rfl

/-- A decoded tick adds its delta to the account and writes no configuration and no response. -/
theorem pollTick_account {s t : State} {e c d b : Bool} (h : pollTick e c d b s = .ok t) (hs : s.mode = .running)
    (ht : t.mode = .running) :
    reachesDecode e s = true ∧ t.account = s.account + sampleDelta e c d b s ∧ t.cfg = s.cfg ∧
      t.observed = s.observed := by
  obtain ⟨hreach, u, hu, rfl⟩ := pollTick_running_ok h hs ht
  have conserved := detent_conserves hu
  have cfg : u.cfg = s.cfg := by rw [detent_frame hu]; rfl
  have observed : u.observed = s.observed := by rw [detent_frame hu]; rfl
  refine ⟨hreach, ?_, by rw [btn_eq]; exact cfg, by rw [btn_eq]; exact observed⟩
  calc (btn (sampleLevels e c d b).sw u).account = u.steps * s.cfg.ppr + u.accum := by
        rw [btn_eq, State.account]; simp only [cfg]
    _ = s.steps * s.cfg.ppr + (s.accum + sampleDelta e c d b s) := conserved
    _ = s.account + sampleDelta e c d b s := by rw [State.account, add_assoc]

/-- A drain of `steps` answers what it takes out of the cell (rule R171). -/
theorem drainSteps_balance (s : State) : rspSteps (drainSteps s).1 + (drainSteps s).2.steps = s.steps := by
  rw [drainSteps_response, drainSteps_state]
  cases drainsOpen s <;> simp [rspSteps]

theorem rspSteps_drainPress (s : State) : rspSteps (drainPress s).1 = 0 := by
  rw [drainPress_response]
  split <;> rfl

/-- One step between two running states: what it answered to `RDSTEPS`, with what is left, is what was there and what
the step decoded. -/
theorem step_account {s t : State} (h : step s = .next t) (hs : s.mode = .running) (ht : t.mode = .running)
    (hb : notBurstNext s = true) :
    t.cfg = s.cfg ∧ ∃ new, t.observed = new ++ s.observed ∧
      drainedSum new * s.cfg.ppr + t.account = s.account + nextDelta s := by
  cases step_effect h with
  | ended hin =>
    refine ⟨rfl, [], rfl, ?_⟩
    rw [nextDelta_of_not_poll (by simp [hin])]
    simp [drainedSum]
  | polled hin hw hp =>
    obtain ⟨hreach, account, cfg, observed⟩ := pollTick_account hp hs ht
    refine ⟨cfg, [], observed, ?_⟩
    have decoded : nextDelta s = sampleDelta _ _ _ _ s := (nextDelta_poll hin hw).trans (if_pos hreach)
    rw [decoded, account]
    simp [drainedSum, State.account, sampleDelta]
  | started hin hw hmode hcfg => exact absurd hs hmode.ne_running
  | @answered w rest status value hin hw hvalue =>
    have silent : rspSteps { status, value } = 0 := by
      rcases hvalue with rfl | rfl <;> cases status <;> rfl
    refine ⟨rfl, [{ status, value }], rfl, ?_⟩
    rw [nextDelta_of_event hin hw]
    simp [drainedSum, silent, State.account]
  | @stepsRead w rest hin hw =>
    have balance := drainSteps_balance { s with inputs := rest }
    refine ⟨by rw [drainSteps_state]; rfl, [(drainSteps { s with inputs := rest }).1], ?_, ?_⟩
    · rw [respond_observed, drainSteps_state]; rfl
    · rw [nextDelta_of_event hin (by simp [hw])]
      rw [drainSteps_state] at balance ⊢
      simp only [drainedSum, List.map_cons, List.map_nil, List.sum_singleton, State.account, respond_steps, respond_cfg,
        respond_accum] at balance ⊢
      linear_combination s.cfg.ppr * balance
  | @pressRead w rest hin hw =>
    refine ⟨by rw [drainPress_state]; rfl, [(drainPress { s with inputs := rest }).1], ?_, ?_⟩
    · rw [respond_observed, drainPress_state]; rfl
    · rw [nextDelta_of_event hin (by simp [hw]), drainPress_state]
      simp [drainedSum, rspSteps_drainPress, State.account]
  | @closed w rest hin hw =>
    refine ⟨by rw [closeBlock_frame]; rfl, [{ status := .ok, value := none }], ?_, ?_⟩
    · rw [respond_observed, closeBlock_frame]; rfl
    · rw [nextDelta_of_event hin (by simp [hw]), closeBlock_frame]
      simp [drainedSum, rspSteps, State.account]
  | configured hin =>
    refine ⟨rfl, [], rfl, ?_⟩
    rw [nextDelta_of_not_poll (by simp [hin])]
    simp [drainedSum, State.account]
  | burst hin hp => simp [notBurstNext, hin] at hb

theorem keepsRunning_mode {k : Nat} {s : State} (h : keepsRunning k s) : s.mode = .running := by
  cases k with
  | zero => exact h
  | succ k =>
    obtain ⟨hs, -⟩ := h
    exact hs

theorem drainedSum_append (l m : List Rsp) : drainedSum (l ++ m) = drainedSum l + drainedSum m := by
  simp [drainedSum]

/-- Settles O54, by induction on the number of steps; `step_account` is the step. -/
theorem transitionsConserved : Obligations.TransitionsConserved := by
  intro k
  induction k with
  | zero => intro s h; exact ⟨s, [], rfl, rfl, by simp [drainedSum, runDelta]⟩
  | succ k ih =>
    rintro s ⟨hs, hb, u, hu, hk⟩
    obtain ⟨cfg, first, hfirst, one⟩ := step_account hu hs (keepsRunning_mode hk) hb
    obtain ⟨t, later, hrun, hlater, rest⟩ := ih u hk
    refine ⟨t, later ++ first, by simp [runSteps, hu, hrun], by rw [hlater, hfirst, List.append_assoc], ?_⟩
    have delta : runDelta (k + 1) s = nextDelta s + runDelta k u := by simp [runDelta, hu]
    simp only [State.account, cfg] at one rest
    rw [delta, drainedSum_append]
    linear_combination one + rest

end Sys2Proof.Machine

/-! # What the counters hold before `START` and after a stop (10_state.md rules R37 and R221; log entry 11)

In `IDLE` and `STOPPED` an operation commutes with overwriting the eight counters: a tick advances time alone, a drain
is turned away, and no command reads them. An accepted `START` writes all eight, so that it leaves the same state
whatever they held. -/

namespace Sys2Proof.Machine

/-- `s` with the eight counters of `k`. -/
def State.withCountersOf (s k : State) : State :=
  { s with
    accum := k.accum, steps := k.steps, prevState := k.prevState, pressLatch := k.pressLatch
    lastButtonLevel := k.lastButtonLevel, lastButtonChangeTime := k.lastButtonChangeTime
    pressBlocked := k.pressBlocked, errCount := k.errCount }

theorem agreeButCounters_iff {s t : State} : agreeButCounters s t ↔ t = s.withCountersOf t := Iff.rfl

theorem agreeButCounters_withCountersOf (s k : State) : agreeButCounters s (s.withCountersOf k) := rfl

/-- The choices inside a `BURST` read and write no counter. -/
theorem takeTurn_withCountersOf (s k : State) :
    takeTurn (s.withCountersOf k) = ((takeTurn s).1, (takeTurn s).2.withCountersOf k) := by
  have turns : (s.withCountersOf k).turns = s.turns := rfl
  unfold takeTurn
  rw [turns]
  cases s.turns <;> rfl

theorem waitTicks_withCountersOf (s k : State) :
    waitTicks (s.withCountersOf k) = ((waitTicks s).1, (waitTicks s).2.withCountersOf k) := by
  have interval : tickInterval (s.withCountersOf k) = tickInterval s := rfl
  have params : (s.withCountersOf k).params = s.params := rfl
  unfold waitTicks
  simp only [interval, params, takeTurn_withCountersOf]
  split <;> rfl

namespace State.dormant

variable {s t : State} (k : State)

protected theorem pollTick {e c d b : Bool} (h : s.dormant) (ht : pollTick e c d b s = .ok t) :
    t.dormant ∧ pollTick e c d b (s.withCountersOf k) = .ok (t.withCountersOf k) := by
  rw [pollTick_of_ne_running h.ne_running] at ht
  obtain ⟨hfit, rfl⟩ := advanceTime_ok ht
  refine ⟨h, ?_⟩
  rw [pollTick_of_ne_running (s := s.withCountersOf k) h.ne_running]
  exact advanceTime_of_fits (s := s.withCountersOf k) hfit

protected theorem freeTick (h : s.dormant) (ht : freeTick s = .ok t) :
    t.dormant ∧ freeTick (s.withCountersOf k) = .ok (t.withCountersOf k) :=
  State.dormant.pollTick (s := { s with draws := s.draws + 1 }) k h ht

protected theorem environmentTick (h : s.dormant) (ht : environmentTick s = .ok t) :
    t.dormant ∧ environmentTick (s.withCountersOf k) = .ok (t.withCountersOf k) := by
  have inputs : (s.withCountersOf k).inputs = s.inputs := rfl
  unfold environmentTick at ht ⊢
  rw [inputs]
  rcases hin : s.inputs with _ | ⟨_ | _ | _, rest⟩ <;> rw [hin] at ht
  case nil => exact h.freeTick k ht
  case cons.burst => exact h.freeTick k ht
  case cons.configure => exact h.freeTick k ht
  case cons.event w =>
    simp only at ht ⊢
    split at ht
    next => exact State.dormant.pollTick (s := { s with inputs := rest }) k h ht
    next => exact h.freeTick k ht

protected theorem runTicks {n : Nat} (h : s.dormant) (ht : runTicks n s = .ok t) :
    t.dormant ∧ runTicks n (s.withCountersOf k) = .ok (t.withCountersOf k) := by
  induction n generalizing s with
  | zero => cases ht; exact ⟨h, rfl⟩
  | succ n ih =>
    unfold runTicks at ht ⊢
    split at ht
    next u hu =>
      obtain ⟨hud, huk⟩ := h.environmentTick k hu
      rw [huk]
      exact ih hud ht
    next => cases ht

protected theorem burstWait (h : s.dormant) (ht : burstWait s = .ok t) :
    t.dormant ∧ burstWait (s.withCountersOf k) = .ok (t.withCountersOf k) := by
  have started : (waitTicks s).2.dormant := by obtain hw | hw := waitTicks_state s <;> rw [hw] <;> exact h
  unfold burstWait at ht ⊢
  rw [waitTicks_withCountersOf]
  exact started.runTicks k ht

protected theorem burstGap (h : s.dormant) (ht : burstGap s = .ok t) :
    t.dormant ∧ burstGap (s.withCountersOf k) = .ok (t.withCountersOf k) := by
  have started : (takeTurn s).2.dormant := by rw [takeTurn_state]; exact h
  unfold burstGap at ht ⊢
  rw [takeTurn_withCountersOf]
  exact started.runTicks k ht

/-- The drains are turned away and drain nothing (rule R176). -/
theorem drainSteps_eq (h : s.dormant) : drainSteps s = ({ status := .notReady, value := none }, s) := by
  simp [drainSteps, drainsOpen_of_dormant h]

theorem drainPress_eq (h : s.dormant) : drainPress s = ({ status := .notReady, value := none }, s) := by
  simp [drainPress, drainsOpen_of_dormant h]

protected theorem burstPair {a a' : Tally} (h : s.dormant) (ht : burstPair a s = .ok (a', t)) :
    t.dormant ∧ burstPair a (s.withCountersOf k) = .ok (a', t.withCountersOf k) := by
  have hk : (s.withCountersOf k).dormant := h
  unfold burstPair at ht ⊢
  rw [drainSteps_eq h] at ht
  rw [drainSteps_eq hk]
  simp only at ht ⊢
  split at ht
  next u hu =>
    obtain ⟨hud, huk⟩ := State.dormant.burstGap (s := respond .notReady none s) k h hu
    have huk' : burstGap (respond .notReady none (s.withCountersOf k)) = .ok (u.withCountersOf k) := huk
    have hukd : (u.withCountersOf k).dormant := hud
    rw [drainPress_eq hud] at ht
    obtain ⟨rfl, rfl⟩ := Prod.mk.inj (Except.ok.inj ht)
    rw [huk']
    simp only [drainPress_eq hukd]
    exact ⟨hud, rfl⟩
  next => cases ht

protected theorem burstPairs {n : Nat} {a a' : Tally} (h : s.dormant) (ht : burstPairs n a s = .ok (a', t)) :
    t.dormant ∧ burstPairs n a (s.withCountersOf k) = .ok (a', t.withCountersOf k) := by
  induction n generalizing a s with
  | zero => cases ht; exact ⟨h, rfl⟩
  | succ n ih =>
    unfold burstPairs at ht ⊢
    split at ht
    next b u hu =>
      obtain ⟨hud, huk⟩ := h.burstPair k hu
      rw [huk]
      cases n with
      | zero => cases ht; exact ⟨hud, rfl⟩
      | succ m =>
        simp only at ht ⊢
        split at ht
        next v hv =>
          obtain ⟨hvd, hvk⟩ := hud.burstWait k hv
          rw [hvk]
          exact ih hvd ht
        next => cases ht
    next => cases ht

protected theorem execBurst (h : s.dormant) (ht : execBurst s = .next t) :
    t.dormant ∧ execBurst (s.withCountersOf k) = .next (t.withCountersOf k) := by
  have params : (s.withCountersOf k).params = s.params := rfl
  unfold execBurst at ht ⊢
  rw [params]
  split at ht
  next a u hu =>
    obtain ⟨hud, huk⟩ := h.burstPairs k hu
    cases ht
    rw [huk]
    exact ⟨hud, rfl⟩
  next => cases ht

theorem closeBlock_eq (h : s.dormant) : closeBlock s = { s with linesOpen := false } := by
  rcases h with h | h <;> simp [closeBlock, h]

protected theorem execStart {e c d b : Bool} (h : s.dormant) (ht : execStart e c d b s = .next t) :
    (t.dormant ∧ execStart e c d b (s.withCountersOf k) = .next (t.withCountersOf k)) ∨
      execStart e c d b (s.withCountersOf k) = .next t := by
  have admitted : startBusy s = false := startBusy_eq_false.mpr h
  have admittedK : startBusy (s.withCountersOf k) = false := admitted
  have port : (s.withCountersOf k).cfgIn = s.cfgIn := rfl
  unfold execStart at ht ⊢
  rw [admitted] at ht
  rw [admittedK, port]
  cases hp : presentedCfg s.cfgIn with
  | some r => rw [hp] at ht; cases ht; exact .inr rfl
  | none => rw [hp] at ht; cases ht; exact .inl ⟨h, rfl⟩

/-- An operation of the stream either keeps the block dormant and the difference in the counters alone, or it is the
accepted `START`, which ends the difference. -/
protected theorem exec {w : Byte} {i : Instr} (hw : decodeE8 w = .ok i) (h : s.dormant) (ht : exec i s = .next t) :
    (t.dormant ∧ exec i (s.withCountersOf k) = .next (t.withCountersOf k)) ∨
      exec i (s.withCountersOf k) = .next t := by
  have hk : (s.withCountersOf k).dormant := h
  obtain ⟨e, c, d, b, rfl⟩ | ⟨e, c, d, b, rfl⟩ | rfl | rfl | rfl | rfl := decodeE8_ok hw
  · obtain ⟨htd, htk⟩ := h.pollTick k (outcomeOf_next ht)
    exact .inl ⟨htd, by rw [exec_poll, htk]; rfl⟩
  · exact h.execStart k ht
  · rw [exec_rdsteps, drainSteps_eq h] at ht
    cases ht
    exact .inl ⟨h, by rw [exec_rdsteps, drainSteps_eq hk]; rfl⟩
  · rw [exec_rdpress, drainPress_eq h] at ht
    cases ht
    exact .inl ⟨h, by rw [exec_rdpress, drainPress_eq hk]; rfl⟩
  · rw [exec_close, closeBlock_eq h] at ht
    cases ht
    exact .inl ⟨h, by rw [exec_close, closeBlock_eq hk]; rfl⟩
  · rw [exec_rdstat] at ht
    cases ht
    exact .inl ⟨h, rfl⟩

/-- One step of the two blocks, whose streams are the same. -/
protected theorem step (h : s.dormant) (ht : step s = .next t) :
    (t.dormant ∧ step (s.withCountersOf k) = .next (t.withCountersOf k)) ∨ step (s.withCountersOf k) = .next t := by
  have inputs : (s.withCountersOf k).inputs = s.inputs := rfl
  cases hin : s.inputs with
  | nil =>
    rw [step_ended hin] at ht
    cases ht
    exact .inl ⟨h, step_ended (inputs.trans hin)⟩
  | cons entry rest =>
    cases entry with
    | configure p =>
      rw [step_configure hin] at ht
      cases ht
      exact .inl ⟨h, step_configure (inputs.trans hin)⟩
    | burst =>
      rw [step_burst hin] at ht
      rw [step_burst (inputs.trans hin)]
      exact .inl (State.dormant.execBurst (s := { s with inputs := rest }) k h ht)
    | event w =>
      rw [step_event hin] at ht
      rw [step_event (inputs.trans hin)]
      cases hw : decodeE8 w with
      | ok i =>
        rw [hw] at ht
        exact State.dormant.exec (s := { s with inputs := rest }) k hw h ht
      | error r =>
        rw [hw] at ht
        cases ht
        exact .inl ⟨h, rfl⟩

/-- A run of a dormant block keeps the difference in the counters, until a `START` ends it. -/
protected theorem runSteps {n : Nat} (h : s.dormant) (ht : runSteps n s = some t) :
    (t.dormant ∧ runSteps n (s.withCountersOf k) = some (t.withCountersOf k)) ∨
      runSteps n (s.withCountersOf k) = some t := by
  induction n generalizing s with
  | zero => cases ht; exact .inl ⟨h, rfl⟩
  | succ n ih =>
    unfold runSteps at ht ⊢
    split at ht
    next u hu =>
      obtain ⟨hud, huk⟩ | huk := h.step k hu
      · rw [huk]; exact ih hud ht
      · rw [huk]; exact .inr ht
    next => cases ht

end State.dormant

/-- Settles O57: the two runs differ in the counters while the block is dormant, and are one run after that. -/
theorem destroyedCountersUnobserved : Obligations.DestroyedCountersUnobserved := by
  intro n s t s' hdormant hagree hrun
  rw [agreeButCounters_iff.mp hagree]
  obtain ⟨hd, hk⟩ | hk := State.dormant.runSteps t hdormant hrun
  · exact ⟨s'.withCountersOf t, hk, rfl, agreeButCounters_withCountersOf s' t, fun hr => absurd hr hd.ne_running⟩
  · exact ⟨s', hk, rfl, rfl, fun _ => rfl⟩

end Sys2Proof.Machine

/-! # The stream and the two drains (20_memory.md rules R54, R55 and R57, 43_host_commands.md rules R171 and R172) -/

namespace Sys2Proof.Machine

/-- Settles O5: `step_event` where the word decodes, and `step_burst`. -/
theorem stepRunsDecodedOperation : Obligations.StepRunsDecodedOperation := by
  intro s rest i
  refine ⟨fun w hin hw _ => ?_, step_burst⟩
  have decoded : decodeE8 w = .ok i := hw
  rw [step_event hin, decoded]

/-! ## The words of the commands -/

/-- The bits of an event word, the least significant first (rule R75). -/
theorem eventWord_getLsbD (op : BitVec 3) (e c d s : Bool) {k : Nat} (hk : k < 8) :
    (eventWord op e c d s).getLsbD k = [s, d, c, e, false, op.getLsbD 0, op.getLsbD 1, op.getLsbD 2].getD k false := by
  have bits : (eventWord op e c d s).getLsbD k =
      (op ++ 0#1 ++ BitVec.ofBool e ++ BitVec.ofBool c ++ BitVec.ofBool d ++ BitVec.ofBool s :
        BitVec (3 + 1 + 1 + 1 + 1 + 1)).getLsbD k := rfl
  simp only [BitVec.getLsbD_append] at bits
  rw [bits]
  interval_cases k <;> simp

/-- A word whose bit `z` is 0 is put together from its `op` field and the four bits of its nibble. -/
theorem eq_eventWord_of_zBit {w : Byte} (hz : w.getLsbD 4 = false) :
    w = eventWord (w.extractLsb' 5 3) (w.getLsbD 3) (w.getLsbD 2) (w.getLsbD 1) (w.getLsbD 0) := by
  apply BitVec.eq_of_getLsbD_eq
  intro k hk
  rw [eventWord_getLsbD _ _ _ _ _ hk]
  by_cases isZ : k = 4
  · subst isZ; exact hz
  · interval_cases k <;> simp at isZ ⊢

/-- A word whose nibble is 0 as well is its `op` field alone. -/
theorem eq_eventWord_of_nibble {w : Byte} (hz : w.getLsbD 4 = false) (hn : w.extractLsb' 0 4 = 0#4) :
    w = eventWord (w.extractLsb' 5 3) false false false false := by
  have bit (k : Nat) (hk : k < 4) : w.getLsbD k = false := by
    simpa [hk] using congrArg (·.getLsbD k) hn
  simpa only [bit 0, bit 1, bit 2, bit 3, Nat.reduceLT] using eq_eventWord_of_zBit hz

/-- A decoded word is the code of its operation (rules R75 and R76). -/
theorem encode_of_decodeE8 {w : Byte} {i : Instr} (h : decodeE8 w = .ok i) : encode i = .e8 w := by
  unfold decodeE8 at h
  simp only at h
  split at h
  case isTrue => cases h
  case isFalse hreserved =>
    split at h
    case isTrue => cases h
    case isFalse hz =>
      have word := eq_eventWord_of_zBit (by simpa using hz)
      have bare := eq_eventWord_of_nibble (w := w) (by simpa using hz)
      generalize w.extractLsb' 5 3 = op at h hreserved word bare
      split_ifs at h with poll start nibble rdsteps rdpress close
      · cases h; rw [poll] at word; exact congrArg Code.e8 word.symm
      · cases h; rw [start] at word; exact congrArg Code.e8 word.symm
      · cases h; rw [rdsteps] at bare; exact congrArg Code.e8 (bare (not_not.mp nibble)).symm
      · cases h; rw [rdpress] at bare; exact congrArg Code.e8 (bare (not_not.mp nibble)).symm
      · cases h; rw [close] at bare; exact congrArg Code.e8 (bare (not_not.mp nibble)).symm
      · have rdstat : op = 5#3 := by bv_omega
        cases h; rw [rdstat] at bare; exact congrArg Code.e8 (bare (not_not.mp nibble)).symm

/-- The word 0x40 and no other is `RDSTEPS`. -/
theorem decodeE8_rdsteps_iff (w : Byte) : decodeE8 w = .ok .rdsteps ↔ w = 0x40#8 := by
  refine ⟨fun h => (Code.e8.inj (encode_of_decodeE8 h)).symm, ?_⟩
  rintro rfl
  rfl

/-- The word 0x60 and no other is `RDPRESS`. -/
theorem decodeE8_rdpress_iff (w : Byte) : decodeE8 w = .ok .rdpress ↔ w = 0x60#8 := by
  refine ⟨fun h => (Code.e8.inj (encode_of_decodeE8 h)).symm, ?_⟩
  rintro rfl
  rfl

/-! ## The drains, admitted and turned away -/

section Drains

variable {s : State}

/-- When the drains are admitted (rule R176). -/
theorem drainsOpen_iff : drainsOpen s = true ↔ (s.mode = .running ∨ s.mode = .disabled) ∧ s.stopFlag = false := by
  simp [drainsOpen]

/-- In a disabled block no stop is pending, so that its drains are admitted. -/
theorem State.Inv.drainsOpen_of_disabled (h : s.Inv) (hm : s.mode = .disabled) : drainsOpen s = true :=
  drainsOpen_iff.mpr ⟨.inr hm, h.stop_clear (.inr hm)⟩

theorem exec_rdsteps_of_open (h : drainsOpen s = true) :
    exec .rdsteps s =
      .next { s with steps := 0, observed := { status := .ok, value := some (.steps s.steps) } :: s.observed } := by
  rw [exec_rdsteps, drainSteps_response, drainSteps_state, if_pos h, if_pos h]
  rfl

theorem exec_rdpress_of_open (h : drainsOpen s = true) :
    exec .rdpress s =
      .next { s with
              pressLatch := false
              observed := { status := .ok, value := some (.press s.pressLatch) } :: s.observed } := by
  rw [exec_rdpress, drainPress_response, drainPress_state, if_pos h, if_pos h]
  rfl

theorem exec_rdsteps_of_closed (h : ¬ drainsOpen s = true) :
    exec .rdsteps s = .next { s with observed := { status := .notReady, value := none } :: s.observed } := by
  rw [exec_rdsteps, drainSteps_response, drainSteps_state, if_neg h, if_neg h]
  rfl

theorem exec_rdpress_of_closed (h : ¬ drainsOpen s = true) :
    exec .rdpress s = .next { s with observed := { status := .notReady, value := none } :: s.observed } := by
  rw [exec_rdpress, drainPress_response, drainPress_state, if_neg h, if_neg h]
  rfl

end Drains

/-- Settles O34: the drain is admitted or turned away; in a disabled block the invariant says that the cell it
empties is empty. -/
theorem stepsDrain : Obligations.StepsDrain := by
  refine ⟨decodeE8_rdsteps_iff, fun s => ⟨fun h => ?_, fun h => ?_, fun h hm => ?_⟩⟩
  · exact exec_rdsteps_of_open (drainsOpen_iff.mpr h)
  · exact exec_rdsteps_of_closed (mt drainsOpen_iff.mp h)
  · obtain ⟨empty, -⟩ := h.disabled_empty hm
    rw [exec_rdsteps_of_open (h.drainsOpen_of_disabled hm), ← empty]

/-- Settles O35, as O34. -/
theorem pressDrain : Obligations.PressDrain := by
  refine ⟨decodeE8_rdpress_iff, fun s => ⟨fun h => ?_, fun h => ?_, fun h hm => ?_⟩⟩
  · exact exec_rdpress_of_open (drainsOpen_iff.mpr h)
  · exact exec_rdpress_of_closed (mt drainsOpen_iff.mp h)
  · obtain ⟨-, clear⟩ := h.disabled_empty hm
    rw [exec_rdpress_of_open (h.drainsOpen_of_disabled hm), ← clear]

/-- Settles O41: the first drain leaves the drains admitted and its cell empty. -/
theorem secondDrainIsEmpty : Obligations.SecondDrainIsEmpty := by
  intro s t u hm hf
  have admitted : drainsOpen s = true := drainsOpen_iff.mpr ⟨.inl hm, hf⟩
  refine ⟨fun ht hu => ?_, fun ht hu => ?_⟩
  · have first := Host.Outcome.next.inj ((exec_rdsteps_of_open admitted).symm.trans ht)
    have still : drainsOpen t = true := by rw [← first]; exact admitted
    rw [exec_rdsteps_of_open still] at hu
    cases hu
    rw [← first]
  · have first := Host.Outcome.next.inj ((exec_rdpress_of_open admitted).symm.trans ht)
    have still : drainsOpen t = true := by rw [← first]; exact admitted
    rw [exec_rdpress_of_open still] at hu
    cases hu
    rw [← first]

end Sys2Proof.Machine

/-! # The sampler's own elements (20_memory.md rule R59, 60_exceptions.md rule R199)

A host command commutes with overwriting the six elements that are the sampler's own, since it reads none of them; an
accepted `START` writes all six, so that it leaves the same state whatever they held. -/

namespace Sys2Proof.Machine

/-- `s` with the sampler's own elements of `k`. -/
def State.withPrivateOf (s k : State) : State :=
  { s with
    accum := k.accum, prevState := k.prevState, lastButtonLevel := k.lastButtonLevel
    lastButtonChangeTime := k.lastButtonChangeTime, pressBlocked := k.pressBlocked, errCount := k.errCount }

theorem agreeButPrivate_iff {s t : State} : agreeButPrivate s t ↔ t = s.withPrivateOf t := Iff.rfl

theorem agreeButPrivate_withPrivateOf (s k : State) : agreeButPrivate s (s.withPrivateOf k) := rfl

section HostCommands

variable (s k : State)

theorem drainSteps_withPrivateOf :
    drainSteps (s.withPrivateOf k) = ((drainSteps s).1, (drainSteps s).2.withPrivateOf k) := by
  have admission : drainsOpen (s.withPrivateOf k) = drainsOpen s := rfl
  unfold drainSteps
  rw [admission]
  split <;> rfl

theorem drainPress_withPrivateOf :
    drainPress (s.withPrivateOf k) = ((drainPress s).1, (drainPress s).2.withPrivateOf k) := by
  have admission : drainsOpen (s.withPrivateOf k) = drainsOpen s := rfl
  unfold drainPress
  rw [admission]
  split <;> rfl

theorem closeBlock_withPrivateOf : closeBlock (s.withPrivateOf k) = (closeBlock s).withPrivateOf k := by
  cases hm : s.mode <;> simp [closeBlock, hm, State.withPrivateOf]

end HostCommands

/-- The commands of the host other than `START` (rule R76). -/
def isReadOrClose (i : Instr) : Prop := i = .rdsteps ∨ i = .rdpress ∨ i = .close ∨ i = .rdstat

section Commands

variable {i : Instr} {s t : State}

/-- A read or a `CLOSE` reads none of the sampler's own elements and carries each of them over. -/
theorem exec_withPrivateOf (hi : isReadOrClose i) (k : State) (h : exec i s = .next t) :
    exec i (s.withPrivateOf k) = .next (t.withPrivateOf k) := by
  obtain rfl | rfl | rfl | rfl := hi
  · rw [exec_rdsteps] at h ⊢
    cases h
    rw [drainSteps_withPrivateOf]
    rfl
  · rw [exec_rdpress] at h ⊢
    cases h
    rw [drainPress_withPrivateOf]
    rfl
  · rw [exec_close] at h ⊢
    cases h
    rw [closeBlock_withPrivateOf]
    rfl
  · rw [exec_rdstat] at h ⊢
    cases h
    rfl

/-- What a read or a `CLOSE` may write. -/
theorem exec_readOrClose_frame (hi : isReadOrClose i) (h : exec i s = .next t) :
    t = { s with
          steps := t.steps, pressLatch := t.pressLatch, stopFlag := t.stopFlag, mode := t.mode
          linesOpen := t.linesOpen, observed := t.observed } := by
  obtain rfl | rfl | rfl | rfl := hi
  · rw [exec_rdsteps, drainSteps_state] at h
    cases h
    rfl
  · rw [exec_rdpress, drainPress_state] at h
    cases h
    rfl
  · rw [exec_close, closeBlock_frame] at h
    cases h
    rfl
  · rw [exec_rdstat] at h
    cases h
    rfl

/-- A `START` that is turned away carries the sampler's own elements over, and an accepted one overwrites them. -/
theorem execStart_withPrivateOf {e c d b : Bool} (k : State) (h : execStart e c d b s = .next t) :
    execStart e c d b (s.withPrivateOf k) = .next (t.withPrivateOf k) ∨
      execStart e c d b (s.withPrivateOf k) = .next t := by
  have admission : startBusy (s.withPrivateOf k) = startBusy s := rfl
  have port : (s.withPrivateOf k).cfgIn = s.cfgIn := rfl
  unfold execStart at h ⊢
  rw [admission, port]
  split at h
  next busy => cases h; rw [if_pos busy]; exact .inl rfl
  next free =>
    rw [if_neg free]
    split at h
    next r hr => cases h; exact .inr rfl
    next hr => cases h; exact .inl rfl

end Commands

/-- Settles O42: the command commutes with the change of the sampler's own elements, or is the `START` that ends it. -/
theorem hostCannotReadPrivateState : Obligations.HostCannotReadPrivateState := by
  intro i s t s' hi hagree h
  rw [agreeButPrivate_iff.mp hagree]
  have command : isReadOrClose i ∨ ∃ e c d b, i = .start e c d b := by
    simpa only [isReadOrClose, or_assoc] using hi
  obtain hi | ⟨e, c, d, b, rfl⟩ := command
  · refine ⟨_, exec_withPrivateOf hi t h, rfl, agreeButPrivate_withPrivateOf s' t, fun _ => ?_⟩
    rw [exec_readOrClose_frame hi h]
    exact ⟨rfl, rfl, rfl, rfl, rfl, rfl, rfl⟩
  · have noClaim {P : Prop} (hne : ∀ e' c' d' b', Instr.start e c d b ≠ .start e' c' d' b') : P :=
      absurd rfl (hne e c d b)
    obtain hk | hk := execStart_withPrivateOf t h
    · exact ⟨_, hk, rfl, agreeButPrivate_withPrivateOf s' t, noClaim⟩
    · exact ⟨s', hk, rfl, rfl, noClaim⟩

end Sys2Proof.Machine

/-! # The ticks inside a burst (30_encoding.md rule R83, 20_memory.md rule R60 a, 70_reset_and_hazards.md rule R227)

A tick reads neither the stream nor the environment's choices, so that it is the same tick inside a burst as outside.
`Elapses` counts the choices a piece of a burst uses up and the ticks it takes; the pieces of a burst add up. -/

namespace Sys2Proof.Machine

/-! ## A tick and the stream -/

/-- `s` with another stream and other choices of the environment. -/
def State.withStream (s : State) (inputs : List Input) (turns : List Bool) : State :=
  { s with inputs := inputs, turns := turns }

section Stream

variable (s : State) (l : List Input) (m : List Bool) (e c d b : Bool)

/-- The result of an operation, with another stream. -/
def streamResult (r : Except Fault State) : Except Fault State := r.map (·.withStream l m)

theorem advanceTime_withStream : advanceTime (s.withStream l m) = streamResult l m (advanceTime s) := by
  have fits : timeFits (s.withStream l m).params.timeW ((s.withStream l m).now + tickInterval (s.withStream l m))
      = timeFits s.params.timeW (s.now + tickInterval s) := rfl
  unfold advanceTime
  rw [fits]
  split <;> rfl

theorem atomicAddSteps_withStream (v : Int) :
    atomicAddSteps v (s.withStream l m) = streamResult l m (atomicAddSteps v s) := by
  have fits : stepsFits (s.withStream l m).params.stepsW ((s.withStream l m).steps + v)
      = stepsFits s.params.stepsW (s.steps + v) := rfl
  unfold atomicAddSteps
  rw [fits]
  split <;> rfl

theorem detent_withStream : detent (s.withStream l m) = streamResult l m (detent s) := by
  have cfg : (s.withStream l m).cfg = s.cfg := rfl
  have accum : (s.withStream l m).accum = s.accum := rfl
  unfold detent
  rw [cfg, accum, atomicAddSteps_withStream]
  split
  · cases atomicAddSteps (trunc s.accum s.cfg.ppr) s <;> rfl
  · rfl

theorem btn_withStream (sw : Bool) : btn sw (s.withStream l m) = (btn sw s).withStream l m := by
  rw [btn_eq, btn_eq]
  rfl

theorem decodeSample_withStream (v : Levels) :
    decodeSample v (s.withStream l m) = streamResult l m (decodeSample v s) := by
  have row : qdec v.clk v.dt (s.withStream l m) = (qdec v.clk v.dt s).withStream l m := rfl
  unfold decodeSample
  rw [row, detent_withStream]
  cases detent (qdec v.clk v.dt s) with
  | ok t => exact congrArg Except.ok (btn_withStream t l m v.sw)
  | error f => rfl

theorem pollIteration_withStream :
    pollIteration e c d b (s.withStream l m) = streamResult l m (pollIteration e c d b s) := by
  cases hs : s.stopFlag with
  | true => rw [pollIteration_stops hs, pollIteration_stops (s := s.withStream l m) hs]; rfl
  | false =>
    cases he : errLimitHit e s with
    | true => rw [pollIteration_disables hs he, pollIteration_disables (s := s.withStream l m) hs he]; rfl
    | false =>
      rw [pollIteration_decodes hs he, pollIteration_decodes (s := s.withStream l m) hs he]
      exact decodeSample_withStream (countError e s) l m _

/-- A tick reads neither the stream nor the choices. -/
theorem pollTick_withStream : pollTick e c d b (s.withStream l m) = streamResult l m (pollTick e c d b s) := by
  unfold pollTick
  rw [advanceTime_withStream]
  cases advanceTime s with
  | error f => rfl
  | ok t =>
    have mode : (t.withStream l m).mode = t.mode := rfl
    simp only [streamResult, Except.map, mode]
    split
    · exact pollIteration_withStream t l m e c d b
    · rfl

theorem drainPress_withStream :
    drainPress (s.withStream l m) = ((drainPress s).1, (drainPress s).2.withStream l m) := by
  have admission : drainsOpen (s.withStream l m) = drainsOpen s := rfl
  unfold drainPress
  rw [admission]
  split <;> rfl

end Stream

/-- A tick writes the sampler's elements, the time and the mode, and nothing else. -/
theorem pollTick_frame {s t : State} {e c d b : Bool} (h : pollTick e c d b s = .ok t) :
    t = { s with
          accum := t.accum, steps := t.steps, prevState := t.prevState, pressLatch := t.pressLatch
          lastButtonLevel := t.lastButtonLevel, lastButtonChangeTime := t.lastButtonChangeTime
          pressBlocked := t.pressBlocked, errCount := t.errCount, mode := t.mode, now := t.now } := by
  obtain ⟨-, ⟨-, rfl⟩ | ⟨-, hi⟩⟩ := pollTick_ok h
  · rfl
  obtain ⟨-, rfl⟩ | ⟨-, -, rfl⟩ | ⟨-, -, u, hu, rfl⟩ := pollIteration_ok hi
  · rfl
  · rfl
  · rw [btn_eq, detent_frame hu]; rfl

/-- A tick keeps the tick period: no tick starts a block, and outside `IDLE` the period is that of `cfg`. -/
theorem pollTick_tickInterval {s t : State} {e c d b : Bool} (h : pollTick e c d b s = .ok t) :
    tickInterval t = tickInterval s := by
  have frame := pollTick_frame h
  obtain hm | ⟨hs, ht⟩ := pollTick_mode h
  · rw [frame, hm]; rfl
  · have awake : t.mode ≠ .idle := by rcases ht with ht | ht <;> simp [ht]
    rw [tickInterval_of_ne awake, tickInterval_of_ne (by simp [hs]), frame]

/-! ## A tick inside a pair -/

theorem runTicks_one (s : State) : runTicks 1 s = environmentTick s := by
  unfold runTicks
  cases environmentTick s <;> rfl

/-- Where the stream goes on with a `POLL` word, that is the next tick (log entry 10). -/
theorem environmentTick_of_poll {s : State} {w : Byte} {rest : List Input} {e c d b : Bool}
    (hin : s.inputs = .event w :: rest) (hw : decodeE8 w = .ok (.poll e c d b)) :
    environmentTick s = pollTick e c d b { s with inputs := rest } := by
  unfold environmentTick
  rw [hin]
  simp only [hw]

theorem takeTurn_cons {s : State} {x : Bool} {choices : List Bool} (h : s.turns = x :: choices) :
    takeTurn s = (x, { s with turns := choices }) := by
  unfold takeTurn
  rw [h]

/-- A true choice puts one tick between the two commands of a pair (log entry 9). -/
theorem burstGap_of_poll {s : State} {w : Byte} {rest : List Input} {choices : List Bool} {e c d b : Bool}
    (hturns : s.turns = true :: choices) (hin : s.inputs = .event w :: rest)
    (hw : decodeE8 w = .ok (.poll e c d b)) :
    burstGap s = pollTick e c d b (s.withStream rest choices) := by
  unfold burstGap
  rw [takeTurn_cons hturns]
  simp only [if_true, runTicks_one]
  exact environmentTick_of_poll hin hw

/-- A pair whose tick does not fault, from the state `t` after that tick (rule R175). -/
theorem burstPair_of_gap {s t : State} (a : Tally)
    (h : burstGap (respond (drainSteps s).1.status (drainSteps s).1.value (drainSteps s).2) = .ok t) :
    burstPair a s =
      .ok ({ total := a.total + rspSteps (drainSteps s).1, any := a.any || rspPress (drainPress t).1 },
        respond (drainPress t).1.status (drainPress t).1.value (drainPress t).2) := by
  unfold burstPair
  simp only [h]

theorem burstPairs_one (a : Tally) (s : State) : burstPairs 1 a s = burstPair a s := by
  unfold burstPairs
  cases burstPair a s <;> rfl

/-- Settles O59: the tick inside the pair is the tick after `RDSTEPS`, with the stream and the choices moved on. -/
theorem burstTickInsidePair : Obligations.BurstTickInsidePair := by
  intro s t u v w e c d b rest choices hn hturns hin hw ht hu hv
  rw [exec_rdsteps] at ht
  rw [exec_rdpress] at hv
  cases ht
  cases hv
  have tick := outcomeOf_next hu
  have observed : u.observed = (drainSteps s).1 :: s.observed := by
    rw [pollTick_frame tick, respond_observed, drainSteps_state]
  have gap : burstGap (respond (drainSteps s).1.status (drainSteps s).1.value (drainSteps s).2)
      = .ok (u.withStream rest choices) := by
    rw [burstGap_of_poll (by rw [respond_turns, drainSteps_state]; exact hturns)
      (by rw [respond_inputs, drainSteps_state]; exact hin) hw, pollTick_withStream, tick]
    rfl
  refine ⟨(drainSteps s).1, (drainPress u).1, ?_, ?_⟩
  · rw [respond_observed, drainPress_state, observed]
  · rw [exec_burst, execBurst, hn, burstPairs_one, burstPair_of_gap _ gap, drainPress_withStream]
    simp only [zero_add, Bool.false_or]
    rfl

/-! ## The time a burst takes -/

/-- From `s` to `t` the environment made `m` choices, and `k` ticks ran and one more for each of them that was true. -/
structure Elapses (m k : Nat) (s t : State) : Prop where
  turns : t.turns = s.turns.drop m
  now : t.now = s.now + (k + (s.turns.take m).count true) * tickInterval s
  interval : tickInterval t = tickInterval s
  params : t.params = s.params

/-- A true choice is one tick more. -/
theorem takeTurn_ticks (s : State) (k : Nat) :
    (if (takeTurn s).1 then k + 1 else k) = k + (s.turns.take 1).count true := by
  unfold takeTurn
  rcases s.turns with _ | ⟨_ | _, _⟩ <;> rfl

namespace Elapses

variable {s t u : State} {m k m' k' : Nat}

/-- Pieces of a burst add up: the second makes its choices after those of the first. -/
protected theorem trans (h : Elapses m k s t) (h' : Elapses m' k' t u) : Elapses (m + m') (k + k') s u where
  turns := by rw [h'.turns, h.turns, List.drop_drop]
  now := by
    rw [h'.now, h.now, h.interval, h.turns, List.take_add, List.count_append]
    ring
  interval := h'.interval.trans h.interval
  params := h'.params.trans h.params

protected theorem refl (s : State) : Elapses 0 0 s s := ⟨rfl, by simp, rfl, rfl⟩

protected theorem readSteps (s : State) :
    Elapses 0 0 s (respond (drainSteps s).1.status (drainSteps s).1.value (drainSteps s).2) := by
  rw [drainSteps_state]
  exact ⟨rfl, by simp, rfl, rfl⟩

protected theorem readPress (s : State) :
    Elapses 0 0 s (respond (drainPress s).1.status (drainPress s).1.value (drainPress s).2) := by
  rw [drainPress_state]
  exact ⟨rfl, by simp, rfl, rfl⟩

protected theorem pollTick {e c d b : Bool} (h : pollTick e c d b s = .ok t) : Elapses 0 1 s t where
  turns := by rw [pollTick_frame h]; rfl
  now := by rw [pollTick_now h]; simp
  interval := pollTick_tickInterval h
  params := pollTick_params h

protected theorem environmentTick (h : environmentTick s = .ok t) : Elapses 0 1 s t := by
  obtain ⟨_, _, _, _, u, hu, ⟨_, _, -, -, rfl⟩ | rfl⟩ := environmentTick_ok h
  · exact { Elapses.pollTick hu with }
  · exact { Elapses.pollTick hu with }

protected theorem runTicks {n : Nat} (h : runTicks n s = .ok t) : Elapses 0 n s t := by
  induction n generalizing s with
  | zero => cases h; exact .refl _
  | succ n ih =>
    unfold runTicks at h
    split at h
    next u hu =>
      rw [add_comm]
      exact (Elapses.environmentTick hu).trans (ih h)
    next => cases h

/-- One choice between `k` ticks and one more; where none is left, the choice is false. -/
protected theorem runTicks_takeTurn (h : runTicks (if (takeTurn s).1 then k + 1 else k) (takeTurn s).2 = .ok t) :
    Elapses 1 k s t := by
  rw [takeTurn_ticks, takeTurn_state] at h
  obtain ⟨turns, now, interval, params⟩ := Elapses.runTicks h
  exact ⟨by simpa using turns, now, interval, params⟩

protected theorem burstGap (h : burstGap s = .ok t) : Elapses 1 0 s t := Elapses.runTicks_takeTurn h

protected theorem burstPair {a a' : Tally} (h : burstPair a s = .ok (a', t)) : Elapses 1 0 s t := by
  unfold burstPair at h
  simp only at h
  split at h
  next u hu =>
    obtain ⟨-, rfl⟩ := Prod.mk.inj (Except.ok.inj h)
    exact ((Elapses.readSteps s).trans (.burstGap hu)).trans (.readPress u)
  next => cases h

end Elapses

/-- How many choices a wait of `delay` needs at a tick period of `p`: none where the delay is whole periods (rule R83;
log entry 9). -/
def waitChoices (delay p : Nat) : Nat := if delay % p = 0 then 0 else 1

namespace Elapses

variable {s t : State}

protected theorem burstWait (h : burstWait s = .ok t) :
    Elapses (waitChoices s.params.interSampleDelay (tickInterval s)) (s.params.interSampleDelay / tickInterval s)
      s t := by
  unfold burstWait waitTicks at h
  unfold waitChoices
  simp only at h
  split at h
  next whole => rw [if_pos whole]; exact .runTicks h
  next broken => rw [if_neg broken]; exact .runTicks_takeTurn h

/-- A burst of `n` pairs has a choice in each pair and those of the `n - 1` waits between them. -/
protected theorem burstPairs {n : Nat} {a a' : Tally} (h : burstPairs n a s = .ok (a', t)) :
    Elapses (n + (n - 1) * waitChoices s.params.interSampleDelay (tickInterval s))
      ((n - 1) * (s.params.interSampleDelay / tickInterval s)) s t := by
  induction n generalizing a s with
  | zero => cases h; simpa using Elapses.refl _
  | succ n ih =>
    unfold burstPairs at h
    split at h
    next b u hu =>
      have pair := Elapses.burstPair hu
      cases n with
      | zero => cases h; simpa using pair
      | succ m =>
        simp only at h
        split at h
        next v hv =>
          have first := pair.trans (.burstWait hv)
          have whole := first.trans (ih h)
          rw [first.interval, first.params, pair.interval, pair.params] at whole
          convert whole using 1
          · simp only [Nat.add_sub_cancel]; ring
          · simp only [Nat.add_sub_cancel]; ring
        next => cases h
    next => cases h

protected theorem execBurst (h : execBurst s = .next t) :
    Elapses (s.params.nSamples + (s.params.nSamples - 1) * waitChoices s.params.interSampleDelay (tickInterval s))
      ((s.params.nSamples - 1) * (s.params.interSampleDelay / tickInterval s)) s t := by
  unfold execBurst at h
  split at h
  next a u hu =>
    cases h
    exact { Elapses.burstPairs hu with }
  next => cases h

end Elapses

/-- The floor of a quotient and the choice that a broken delay leaves open make up its ceiling. -/
theorem div_add_waitChoices (delay : Nat) {p : Nat} (hp : 0 < p) :
    delay / p + waitChoices delay p = (delay + p - 1) / p := by
  have quotient := Nat.div_add_mod' delay p
  have remainder := Nat.mod_lt delay hp
  have bounds : (delay / p + waitChoices delay p) * p ≤ delay + p - 1 ∧
      delay + p - 1 < (delay / p + waitChoices delay p + 1) * p := by
    simp only [waitChoices, Nat.add_mul, Nat.one_mul]
    split <;> omega
  obtain ⟨lower, upper⟩ := bounds
  exact (Nat.div_eq_of_lt_le lower upper).symm

/-- Settles O46: what the pieces of the burst add up to. There are no more true choices than choices, and a wait with
its choice is at most the ceiling. -/
theorem burstWaitsTakeTime : Obligations.BurstWaitsTakeTime := by
  intro s t h n delay p choices
  obtain ⟨turns, now, -, -⟩ := Elapses.execBurst h
  have made : choices = s.turns.take (n + (n - 1) * waitChoices delay p) := by
    simp only [choices, waitChoices]
    split <;> simp
  have elapsed : t.now = s.now + ((n - 1) * (delay / p) + choices.count true) * p := by rw [made]; exact now
  have few : choices.count true ≤ n + (n - 1) * waitChoices delay p :=
    List.count_le_length.trans (by rw [made]; exact List.length_take_le _ _)
  refine ⟨elapsed, ?used, ?lower, ?upper, fun whole quiet => ?delays⟩
  case used =>
    rw [turns, made, List.length_take, List.drop_eq_drop_iff, Nat.min_assoc, Nat.min_self]
  case lower =>
    rw [elapsed]
    exact Nat.add_le_add_left (Nat.mul_le_mul_right p (Nat.le_add_right _ _)) _
  case upper =>
    rw [elapsed]
    rcases Nat.eq_zero_or_pos p with hp | hp
    · simp [hp]
    · refine Nat.add_le_add_left (Nat.mul_le_mul_right p ?_) _
      rw [← div_add_waitChoices delay hp, Nat.mul_add]
      omega
  case delays =>
    have noTick : choices.count true = 0 :=
      List.count_eq_zero.mpr fun hmem => by simpa using quiet true (List.mem_of_mem_take hmem)
    rw [elapsed, noTick, Nat.add_zero, Nat.mul_assoc, Nat.div_mul_cancel (Nat.dvd_of_mod_eq_zero whole)]

end Sys2Proof.Machine

/-! # The encodings (30_encoding.md rules R71 to R82)

Each format is written as its fields put together: an `E8` word as `eventWord`, a `CFG0` word as `cfg0Word`. The decoder
reads the fields back, and a word that it accepts is its fields put together, so that decoding and encoding are inverse
to each other. -/

namespace Sys2Proof.Machine

/-! ## Codes and operations -/

theorem decodeE8_poll (e c d b : Bool) : decodeE8 (eventWord 0 e c d b) = .ok (.poll e c d b) := by
  revert e c d b; decide

theorem decodeE8_start (e c d b : Bool) : decodeE8 (eventWord 1 e c d b) = .ok (.start e c d b) := by
  revert e c d b; decide

/-- A table row's code is its index (rule R73). -/
theorem encode_decodeI4 (i : Nibble) : encode (decodeI4 i) = .i4 i := by revert i; decide

/-- The code of an operation decodes to that operation, in the operation's own format. -/
theorem decode_encode (i : Instr) : decode (encode i) = .ok i := by
  cases i with
  | poll e c d b => exact decodeE8_poll e c d b
  | start e c d b => exact decodeE8_start e c d b
  | _ => rfl

/-- A code that decodes is the code of its operation. -/
theorem encode_of_decode {c : Code} {i : Instr} (h : decode c = .ok i) : encode i = c := by
  cases c with
  | e8 w => exact encode_of_decodeE8 h
  | i4 j => cases h; exact encode_decodeI4 j
  | pseudo w =>
    simp only [decode] at h
    split at h
    next hw => cases h; rw [hw]; rfl
    next => cases h

/-- Settles O1: `encode_of_decode` one way, `decode_encode` the other. -/
theorem decodeInvertsEncode : Obligations.DecodeInvertsEncode := by
  intro c i
  constructor
  · intro h; exact (encode_of_decode h).symm
  · rintro rfl; exact decode_encode i

/-- Settles O2: each word is the code of its operation, and so decodes to it; the last three are reserved, by `op`, by
`z` and by the nibble. -/
theorem tableWordsDecode : Obligations.TableWordsDecode := by
  refine ⟨decodeE8_poll false false true true, decodeE8_poll true false false false,
    decodeE8_start false true true true, decode_encode .rdsteps, decode_encode .rdpress, decode_encode .close,
    decode_encode .rdstat, rfl, decode_encode .burst, ?_, ?_, ?_⟩
  all_goals decide

/-! ## Reserved event words -/

/-- The number of a field: bits `start` to `start + len - 1` of a word. -/
theorem toNat_field {n : Nat} (w : BitVec n) (start len : Nat) :
    (w.extractLsb' start len).toNat = w.toNat / 2 ^ start % 2 ^ len := by
  rw [BitVec.extractLsb'_toNat, Nat.shiftRight_eq_div_pow]

/-- The number of the field `op` of an event word. -/
theorem op_toNat (w : Byte) : (w.extractLsb' 5 3).toNat = w.toNat / 32 := by
  have bound := w.isLt
  rw [toNat_field]
  omega

/-- The field `z` of an event word, as a number. -/
theorem zBit_iff (w : Byte) : w.getLsbD 4 = true ↔ w.toNat / 16 % 2 = 1 := by
  rw [BitVec.getLsbD, Nat.testBit_eq_decide_div_mod_eq, decide_eq_true_eq]

/-- The words that rule R80 a reserves, by their bits. -/
abbrev isReserved (w : Byte) : Prop :=
  6 ≤ w.toNat / 32 ∨ w.toNat / 16 % 2 = 1 ∨ (2 ≤ w.toNat / 32 ∧ w.toNat % 16 ≠ 0)

/-- The decoder refuses the reserved words and no others (rule R80 a): along its branches the tests on `op`, `z` and the
nibble, read as numbers, leave no other case. -/
theorem decodeE8_error_iff (w : Byte) : (∃ r, decodeE8 w = .error r) ↔ isReserved w := by
  have op := op_toNat w
  have z := zBit_iff w
  have nibble : (w.extractLsb' 0 4).toNat = w.toNat % 16 := by rw [toNat_field]; simp
  unfold decodeE8 isReserved
  simp only [← BitVec.toNat_inj, ne_eq, op, z, nibble, BitVec.toNat_ofNat, Nat.reducePow, Nat.reduceMod]
  split_ifs <;> simp <;> omega

/-- Settles O3: a reserved word is one that the decoder refuses, and `step_event` says what a step does with either
kind. -/
theorem reservedWordsAnswerBadCmd : Obligations.ReservedWordsAnswerBadCmd := by
  intro s w rest hin
  change if isReserved w then _ else _
  split
  next reserved =>
    obtain ⟨r, hr⟩ := (decodeE8_error_iff w).mpr reserved
    rw [step_event hin, hr]
    rfl
  next admitted =>
    rw [step_event hin]
    cases hw : decodeE8 w with
    | error r => exact absurd ((decodeE8_error_iff w).mp ⟨r, hw⟩) admitted
    | ok i => exact ⟨i, rfl, rfl⟩

/-! ## The row that a poll selects -/

theorem detent_of_unbounded {s : State} (h : s.params.stepsW = none) : ∃ t, detent s = .ok t :=
  ⟨_, detent_of_fits fun _ => by rw [h]; exact stepsFits_none _⟩

/-- A clean poll of a running block with unbounded counters decodes its sample, and does not fault. -/
theorem exec_clean_poll {s : State} {c d b : Bool} (hm : s.mode = .running) (hstop : s.stopFlag = false)
    (hsteps : s.params.stepsW = none) (htime : s.params.timeW = none) :
    ∃ u, detent (qdec c d (countError false { s with now := s.now + s.cfg.pollInterval })) = .ok u ∧
      exec (.poll false c d b) s = .next (btn b u) := by
  obtain ⟨u, hu⟩ :=
    detent_of_unbounded (s := qdec c d (countError false { s with now := s.now + s.cfg.pollInterval })) hsteps
  have decoded : pollTick false c d b s = decodeSample (sampleLevels false c d b) _ :=
    (pollTick_running hm (by rw [htime]; rfl)).trans (pollIteration_decodes hstop rfl)
  refine ⟨u, hu, ?_⟩
  rw [exec_poll, decoded, sampleLevels_eq]
  simp only [decodeSample, Bool.false_or, hu]
  rfl

/-- Settles O13: `QDEC` is the selected row, `DETENT` keeps the account, and `BTN` writes neither of them. -/
theorem pollRunsSelectedRow : Obligations.PollRunsSelectedRow := by
  intro s c d b hm hstop hsteps htime
  obtain ⟨u, hu, hpoll⟩ := exec_clean_poll (c := c) (d := d) (b := b) hm hstop hsteps htime
  refine ⟨_, _, exec_row _ s, hpoll, ?_, ?_⟩
  · rw [btn_eq, detent_frame hu, qdec, tableIndex_eq, packState_eq]
    rfl
  · have conserved := detent_conserves hu
    rw [qdec, tableIndex_eq, packState_eq] at conserved
    rw [btn_eq]
    exact conserved

/-! ## The packed table -/

/-- Settles O7, entry by entry of the sixteen. -/
theorem romImageHoldsTable : Obligations.RomImageHoldsTable := by
  unfold Obligations.RomImageHoldsTable
  decide

/-! ## The packed configuration -/

/-- A `CFG0` word from its fields: bit 3 `DIR_NEG`, bit 2 `ACTIVE_LEVEL`, bits 1:0 `PPR_SEL`, the others 0 (rule
R78). -/
def cfg0Word (negative active : Bool) (sel : BitVec 2) : Byte :=
  0#4 ++ BitVec.ofBool negative ++ BitVec.ofBool active ++ sel

theorem packCfg0_eq (r : Cfg) : packCfg0 r = cfg0Word (r.dir == -1) r.activeLevel (selOfPpr r.ppr) := rfl

/-- What the fields of a `CFG0` word are read back as. -/
theorem cfg0Word_fields (negative active : Bool) (sel : BitVec 2) :
    (cfg0Word negative active sel).extractLsb' 4 4 = 0#4 ∧ (cfg0Word negative active sel).extractLsb' 0 2 = sel ∧
      (cfg0Word negative active sel).getLsbD 2 = active ∧ (cfg0Word negative active sel).getLsbD 3 = negative := by
  revert negative active sel; decide

theorem cfg0Word_getLsbD (negative active : Bool) (sel : BitVec 2) {k : Nat} (hk : k < 8) :
    (cfg0Word negative active sel).getLsbD k = [sel.getLsbD 0, sel.getLsbD 1, active, negative].getD k false := by
  revert negative active sel
  interval_cases k <;> decide

/-- A word whose upper four bits are 0 is put together from the fields of its lower four. -/
theorem eq_cfg0Word {w : Byte} (hw : w.extractLsb' 4 4 = 0#4) :
    w = cfg0Word (w.getLsbD 3) (w.getLsbD 2) (w.extractLsb' 0 2) := by
  have high (j : Nat) (hj : j < 4) : w.getLsbD (4 + j) = false := by
    simpa [hj] using congrArg (·.getLsbD j) hw
  apply BitVec.eq_of_getLsbD_eq
  intro k hk
  rw [cfg0Word_getLsbD _ _ _ hk]
  by_cases low : k < 4
  · interval_cases k <;> simp
  · obtain ⟨j, rfl⟩ := Nat.exists_eq_add_of_le (not_lt.mp low)
    rw [high j (by omega), List.getD_eq_default _ _ (by simp)]

theorem pprOfSel_eq (sel : BitVec 2) :
    pprOfSel sel =
      if sel.toNat ≤ 2 then some (if sel.toNat = 0 then 1 else if sel.toNat = 1 then 2 else 4) else none := by
  revert sel; decide

/-- `PPR_SEL` is the code of the `PPR` that it selects (rule R78). -/
theorem selOfPpr_of_pprOfSel {sel : BitVec 2} {p : Int} (h : pprOfSel sel = some p) : selOfPpr p = sel := by
  unfold pprOfSel at h
  split at h <;> cases h <;> rfl

theorem pprOfSel_selOfPpr {p : Int} (h : p = 1 ∨ p = 2 ∨ p = 4) : pprOfSel (selOfPpr p) = some p := by
  rcases h with rfl | rfl | rfl <;> rfl

/-- The configuration that the bits of a `CFG0` word with a legal `PPR_SEL`, and its three numbers, describe. -/
def cfgOfBits (w : Byte) (p q l : Nat) : Cfg :=
  { ppr := if w.toNat % 4 = 0 then 1 else if w.toNat % 4 = 1 then 2 else 4
    activeLevel := w.getLsbD 2
    dir := if w.getLsbD 3 then -1 else 1
    pollInterval := p, debounceWindow := q, errLimit := l }

theorem unpackCfg_eq (w : Byte) (p q l : Nat) :
    unpackCfg w p q l = if w.toNat % 4 ≤ 2 ∧ w.toNat < 16 then some (cfgOfBits w p q l) else none := by
  have bound := w.isLt
  have sel : (w.extractLsb' 0 2).toNat = w.toNat % 4 := by rw [toNat_field]; simp
  have high : w.extractLsb' 4 4 = 0#4 ↔ w.toNat < 16 := by
    rw [← BitVec.toNat_inj, toNat_field, BitVec.toNat_ofNat]
    omega
  unfold unpackCfg
  simp only [high, pprOfSel_eq, sel]
  by_cases legalSel : w.toNat % 4 ≤ 2
  · simp [legalSel, cfgOfBits]
  · simp [legalSel]

theorem cfgLegal_cfgOfBits (w : Byte) (p q l : Nat) : cfgLegal (cfgOfBits w p q l) = true ↔ 0 < p ∧ 0 < l := by
  have ppr : (cfgOfBits w p q l).ppr = 1 ∨ (cfgOfBits w p q l).ppr = 2 ∨ (cfgOfBits w p q l).ppr = 4 := by
    unfold cfgOfBits
    split_ifs <;> simp
  have dir : (cfgOfBits w p q l).dir = 1 ∨ (cfgOfBits w p q l).dir = -1 := by
    unfold cfgOfBits
    split_ifs <;> simp
  rw [cfgLegal_iff]
  simp only [ppr, dir, true_and]
  rfl

/-- What a word `CFG0` and its three numbers present (rules R78 and R80 c). -/
theorem presentedCfg_packed (w : Byte) (p q l : Nat) :
    presentedCfg (.packed w p q l) =
      if w.toNat % 4 ≤ 2 ∧ w.toNat < 16 ∧ 0 < p ∧ 0 < l then some (cfgOfBits w p q l) else none := by
  simp only [presentedCfg, unpackCfg_eq]
  by_cases bits : w.toNat % 4 ≤ 2 ∧ w.toNat < 16
  · simp only [bits, cfgLegal_cfgOfBits, true_and, and_self, if_true]
  · rw [if_neg bits, if_neg fun all => bits ⟨all.1, all.2.1⟩]

theorem presentedCfg_packed_eq_some {w : Byte} {p q l : Nat} {r : Cfg} :
    presentedCfg (.packed w p q l) = some r ↔ unpackCfg w p q l = some r ∧ cfgLegal r = true := by
  simp only [presentedCfg]
  cases unpackCfg w p q l with
  | none => simp
  | some k =>
    simp only [Option.ite_none_right_eq_some, Option.some.injEq]
    constructor
    · rintro ⟨legal, rfl⟩; exact ⟨rfl, legal⟩
    · rintro ⟨rfl, legal⟩; exact ⟨legal, rfl⟩

/-- The packed form of a legal configuration describes it. -/
theorem unpackCfg_packCfg0 {r : Cfg} (h : cfgLegal r = true) :
    unpackCfg (packCfg0 r) r.pollInterval r.debounceWindow r.errLimit = some r := by
  obtain ⟨hppr, hdir, -, -⟩ := (cfgLegal_iff r).mp h
  obtain ⟨high, sel, active, negative⟩ := cfg0Word_fields (r.dir == -1) r.activeLevel (selOfPpr r.ppr)
  have sign : (if r.dir == -1 then -1 else 1) = r.dir := by
    rcases hdir with hdir | hdir <;> rw [hdir] <;> rfl
  unfold unpackCfg
  rw [packCfg0_eq, if_pos high, sel, pprOfSel_selOfPpr hppr, active, negative, sign]

/-- A word that describes a configuration is the word of that configuration. -/
theorem packCfg0_of_unpackCfg {w : Byte} {p q l : Nat} {r : Cfg} (h : unpackCfg w p q l = some r) :
    packCfg0 r = w ∧ r.pollInterval = p ∧ r.debounceWindow = q ∧ r.errLimit = l := by
  have sign : ((if w.getLsbD 3 then -1 else 1 : Int) == -1) = w.getLsbD 3 := by cases w.getLsbD 3 <;> rfl
  unfold unpackCfg at h
  split at h
  next high =>
    split at h
    next ppr hppr =>
      cases h
      refine ⟨?_, rfl, rfl, rfl⟩
      rw [packCfg0_eq, sign, selOfPpr_of_pprOfSel hppr, ← eq_cfg0Word high]
    next => cases h
  next => cases h

/-- Settles O33: `presentedCfg_packed` reads the bits, and packing and unpacking are inverse to each other. -/
theorem packedConfiguration : Obligations.PackedConfiguration := by
  refine ⟨presentedCfg_packed, fun r hr => ?_, fun w p q l hw => ?_, fun w p q l r hr => ?_⟩
  · have legal := cfgLegal_of_presentedCfg hr
    exact presentedCfg_packed_eq_some.mpr ⟨unpackCfg_packCfg0 legal, legal⟩
  · rw [presentedCfg_packed, if_neg (by omega)]
  · obtain ⟨described, -⟩ := presentedCfg_packed_eq_some.mp hr
    exact packCfg0_of_unpackCfg described

/-! ## What a burst leaves alone -/

/-- An entry of the stream that is a tick. -/
def isTick (x : Input) : Prop := ∃ w e c d b, x = .event w ∧ decodeE8 w = .ok (.poll e c d b)

/-- From `s` to `t` the configuration, the parameters, the stop flag and the lines stay, and the stream moved on over
ticks alone. -/
structure BurstKeeps (s t : State) : Prop where
  cfg : t.cfg = s.cfg
  cfgIn : t.cfgIn = s.cfgIn
  params : t.params = s.params
  stopFlag : t.stopFlag = s.stopFlag
  linesOpen : t.linesOpen = s.linesOpen
  inputs : ∃ ticks, s.inputs = ticks ++ t.inputs ∧ ∀ x ∈ ticks, isTick x

namespace BurstKeeps

variable {s t u : State}

/-- Where the stream did not move on. -/
theorem of_inputs_eq (hcfg : t.cfg = s.cfg) (hcfgIn : t.cfgIn = s.cfgIn) (hparams : t.params = s.params)
    (hstop : t.stopFlag = s.stopFlag) (hlines : t.linesOpen = s.linesOpen) (hin : t.inputs = s.inputs) :
    BurstKeeps s t :=
  ⟨hcfg, hcfgIn, hparams, hstop, hlines, [], hin.symm, by simp⟩

protected theorem trans (h : BurstKeeps s t) (h' : BurstKeeps t u) : BurstKeeps s u where
  cfg := h'.cfg.trans h.cfg
  cfgIn := h'.cfgIn.trans h.cfgIn
  params := h'.params.trans h.params
  stopFlag := h'.stopFlag.trans h.stopFlag
  linesOpen := h'.linesOpen.trans h.linesOpen
  inputs := by
    obtain ⟨first, split, areTicks⟩ := h.inputs
    obtain ⟨second, split', areTicks'⟩ := h'.inputs
    refine ⟨first ++ second, by rw [split, split', List.append_assoc], fun x hx => ?_⟩
    rcases List.mem_append.mp hx with hx | hx
    · exact areTicks x hx
    · exact areTicks' x hx

protected theorem pollTick {e c d b : Bool} (h : pollTick e c d b s = .ok t) : BurstKeeps s t := by
  rw [pollTick_frame h]
  exact of_inputs_eq rfl rfl rfl rfl rfl rfl

/-- A tick inside a burst takes a `POLL` word from the stream, or nothing (log entry 10). -/
protected theorem environmentTick (h : environmentTick s = .ok t) : BurstKeeps s t := by
  obtain ⟨e, c, d, b, u, hu, ⟨w, rest, hin, hw, rfl⟩ | rfl⟩ := environmentTick_ok h
  · have taken : BurstKeeps s { s with inputs := rest } :=
      ⟨rfl, rfl, rfl, rfl, rfl, [.event w], hin, by simpa using ⟨w, e, c, d, b, rfl, hw⟩⟩
    exact taken.trans (.pollTick hu)
  · have drawn : BurstKeeps s { s with draws := s.draws + 1 } := of_inputs_eq rfl rfl rfl rfl rfl rfl
    exact drawn.trans (.pollTick hu)

protected theorem burstPairs {n : Nat} {a a' : Tally} (h : burstPairs n a s = .ok (a', t)) : BurstKeeps s t :=
  burstPairs_rel BurstKeeps
    (refl := fun _ => of_inputs_eq rfl rfl rfl rfl rfl rfl)
    (trans := fun _ _ _ => .trans)
    (tick := fun _ _ => .environmentTick)
    (turn := fun _ _ => of_inputs_eq rfl rfl rfl rfl rfl rfl)
    (readSteps := fun s => by rw [drainSteps_state]; exact of_inputs_eq rfl rfl rfl rfl rfl rfl)
    (readPress := fun s => by rw [drainPress_state]; exact of_inputs_eq rfl rfl rfl rfl rfl rfl) n a s a' t h

protected theorem execBurst (h : execBurst s = .next t) : BurstKeeps s t := by
  unfold execBurst at h
  split at h
  next a u hu =>
    cases h
    exact { BurstKeeps.burstPairs hu with }
  next => cases h

end BurstKeeps

/-- Settles O47: each piece of a burst keeps what `BurstKeeps` lists. -/
theorem burstFrame : Obligations.BurstFrame := by
  intro s t h
  obtain ⟨cfg, cfgIn, params, stopFlag, linesOpen, inputs⟩ := BurstKeeps.execBurst h
  exact ⟨cfg, cfgIn, params, stopFlag, linesOpen, inputs⟩

/-! ## The trace text -/

@[simp] theorem charLevel_levelChar (b : Bool) : charLevel (levelChar b) = some b := by cases b <;> rfl

/-- A written sample is read back. -/
theorem readSample_sampleText (e c d b : Bool) : readSample (sampleText e c d b) = some (e, c, d, b) := by
  cases e with
  | false => simp [sampleText, readSample]
  | true => simp [sampleText, readSample]

theorem readLine_poll (text : List Char) :
    readLine ('P' :: 'O' :: 'L' :: 'L' :: ' ' :: text) =
      (readSample text).map fun q => .poll q.1 q.2.1 q.2.2.1 q.2.2.2 := rfl

theorem readLine_start (text : List Char) :
    readLine ('S' :: 'T' :: 'A' :: 'R' :: 'T' :: ' ' :: text) =
      (readSample text).map fun q => .start q.1 q.2.1 q.2.2.1 q.2.2.2 := rfl

/-- Settles O4: the text of an event is read back as that event; an operation that is no event has no text (rule R83);
the lines that the rule writes out are the model's by evaluation. -/
theorem traceLinesReadBack : Obligations.TraceLinesReadBack := by
  refine ⟨fun i => ?_, fun _ _ _ _ => ⟨rfl, rfl⟩, rfl, rfl, rfl, rfl, rfl, rfl, rfl⟩
  cases i with
  | poll e c d b =>
    change readLine ('P' :: 'O' :: 'L' :: 'L' :: ' ' :: sampleText e c d b) = _
    rw [readLine_poll, readSample_sampleText]
    rfl
  | start e c d b =>
    change readLine ('S' :: 'T' :: 'A' :: 'R' :: 'T' :: ' ' :: sampleText e c d b) = _
    rw [readLine_start, readSample_sampleText]
    rfl
  | _ => rfl

end Sys2Proof.Machine

/-! # The poll sequence (40_poll_sequence.md rules R100 to R106, 60_exceptions.md rules R192 and R193)

A tick is taken in the order of rule R100: outside `RUNNING` it advances the time alone, and a running block stops,
disables itself or decodes its sample. `decodeSample_of_fits` says once what the decode leaves in every element, and
`exec_poll_decodes` when a tick reaches it. `StaysDisabled` carries a disabled block across a whole run. -/

namespace Sys2Proof.Machine

/-! ## A tick that does not decode -/

/-- Settles O15: the amount is the tick period, which is that of `cfg` in every mode but `IDLE`. -/
theorem tickOutsideRunningAdvancesTimeOnly : Obligations.TickOutsideRunningAdvancesTimeOnly := by
  intro s e c d b hm hfit
  refine ⟨tickInterval s, ?_, tickInterval_of_ne⟩
  rw [exec_poll, pollTick_of_ne_running hm, advanceTime_of_fits hfit]
  rfl

/-- Settles O17: the stop check comes before every other sub-step. -/
theorem stopCheckStopsSampler : Obligations.StopCheckStopsSampler := by
  intro s e c d b hm hstop hfit
  have stopped : pollTick e c d b s = _ := (pollTick_running hm hfit).trans (pollIteration_stops hstop)
  rw [exec_poll, stopped]
  rfl

/-- Settles O18: the error count comes before the decode, and at the limit the iteration ends in the soft disable. -/
theorem errorLimitDisables : Obligations.ErrorLimitDisables := by
  intro s c d b hm hstop hlim hfit
  have disabled : pollTick true c d b s = _ :=
    (pollTick_running hm hfit).trans (pollIteration_disables hstop (errLimitHit_eq_true.mpr ⟨rfl, hlim⟩))
  rw [exec_poll, disabled]
  rfl

/-! ## A tick that decodes -/

section Decodes

variable {s : State} {e c d b : Bool}

theorem errLimitHit_eq_false_of_below (h : e = true → s.errCount + 1 < s.cfg.errLimit) : errLimitHit e s = false := by
  cases e with
  | false => rfl
  | true => simpa [errLimitHit] using h rfl

/-- A tick of a running block with no stop pending, below the error limit, decodes the substituted levels after it
advanced the time and counted the error (rules R100, R102 and R103). -/
theorem exec_poll_decodes (hm : s.mode = .running) (hstop : s.stopFlag = false)
    (hlim : e = true → s.errCount + 1 < s.cfg.errLimit)
    (hfit : timeFits s.params.timeW (s.now + s.cfg.pollInterval) = true) :
    exec (.poll e c d b) s =
      outcomeOf (decodeSample { clk := e || c, dt := e || d, sw := e || b }
        (countError e { s with now := s.now + s.cfg.pollInterval })) := by
  have decoded : pollTick e c d b s = _ :=
    (pollTick_running hm hfit).trans (pollIteration_decodes hstop (errLimitHit_eq_false_of_below hlim))
  rw [exec_poll, decoded, sampleLevels_eq]

/-- The whole detents that `accum` holds, where it holds one (rule R139). -/
def detentsIn (s : State) : Int := if s.cfg.ppr ≤ (s.accum.natAbs : Int) then trunc s.accum s.cfg.ppr else 0

/-- `DETENT` moves `detentsIn` detents, which may be none. -/
theorem detent_eq_of_fits
    (h : s.cfg.ppr ≤ (s.accum.natAbs : Int) → stepsFits s.params.stepsW (s.steps + detentsIn s) = true) :
    detent s = .ok { s with steps := s.steps + detentsIn s, accum := s.accum - detentsIn s * s.cfg.ppr } := by
  unfold detentsIn at h ⊢
  by_cases hp : s.cfg.ppr ≤ (s.accum.natAbs : Int)
  · simp only [hp, if_true, forall_const] at h ⊢
    rw [detent_of_fits fun _ => h, if_pos hp]
  · rw [detent_of_fits fun h => absurd h hp, if_neg hp, if_neg hp]
    simp only [add_zero, zero_mul, sub_zero]

/-- The decode of one snapshot: the row, the detent and the button, each on what the one before it left. -/
theorem decodeSample_of_fits {l : Levels}
    (h : s.cfg.ppr ≤ ((qdec l.clk l.dt s).accum.natAbs : Int) →
      stepsFits s.params.stepsW (s.steps + detentsIn (qdec l.clk l.dt s)) = true) :
    decodeSample l s =
      .ok (btn l.sw { qdec l.clk l.dt s with
        steps := s.steps + detentsIn (qdec l.clk l.dt s)
        accum := (qdec l.clk l.dt s).accum - detentsIn (qdec l.clk l.dt s) * s.cfg.ppr }) := by
  unfold decodeSample
  rw [detent_eq_of_fits (s := qdec l.clk l.dt s) h]
  rfl

theorem releaseEdge_eq (sw : Bool) (s : State) :
    releaseEdge sw s = decide (sw ≠ s.lastButtonLevel ∧ sw ≠ s.cfg.activeLevel) := by
  rw [Bool.eq_iff_iff, decide_eq_true_eq]
  simp only [releaseEdge, levelChanged, Bool.and_eq_true, bne_iff_ne]

theorem latchNow_eq (sw : Bool) (s : State) :
    latchNow sw s =
      decide (sw = s.cfg.activeLevel ∧ (s.pressBlocked && !releaseEdge sw s) = false ∧
        s.cfg.debounceWindow ≤ s.now - if sw = s.lastButtonLevel then s.lastButtonChangeTime else s.now) := by
  rw [Bool.eq_iff_iff, decide_eq_true_eq]
  simp only [latchNow, Bool.and_eq_true, beq_iff_eq, Bool.not_eq_true', decide_eq_true_eq, and_assoc]

end Decodes

/-- Settles O19: the row writes `accum` and `prev_state`, the detent `accum` and `steps`, and the button step its four
elements; the error count and the time were written before them. -/
theorem pollIterationEffect : Obligations.PollIterationEffect := by
  intro s e c d b hm hstop hlim hfit clk dt sw new a det now since released blocked latch hsteps
  rw [exec_poll_decodes hm hstop hlim hfit, decodeSample_of_fits (by rw [qdec_eq]; exact hsteps), qdec_eq, btn_eq,
    latchNow_eq, releaseEdge_eq]
  rfl

/-! ## The error count and the decode -/

section ErrCount

variable {s : State} {n : Nat}

theorem detent_withErrCount :
    detent { s with errCount := n } = (detent s).map fun t => { t with errCount := n } := by
  unfold detent atomicAddSteps
  simp only
  split_ifs <;> rfl

/-- The decode neither reads nor writes the error count (rule R103). -/
theorem decodeSample_withErrCount (l : Levels) :
    decodeSample l { s with errCount := n } = (decodeSample l s).map fun t => { t with errCount := n } := by
  have row : qdec l.clk l.dt { s with errCount := n } = { qdec l.clk l.dt s with errCount := n } := rfl
  unfold decodeSample
  rw [row, detent_withErrCount]
  cases detent (qdec l.clk l.dt s) with
  | ok u => simp only [Except.map, btn_eq]; rfl
  | error f => rfl

end ErrCount

/-- Settles O22: both polls decode the levels 1, 1, 1 at the same time, from states that differ in the error count
alone. -/
theorem erroredPollReadsHigh : Obligations.ErroredPollReadsHigh := by
  intro s t c d b hm hstop hlim ht
  have hfit : timeFits s.params.timeW (s.now + s.cfg.pollInterval) = true := by
    obtain ⟨hfit, -⟩ := pollTick_ok (outcomeOf_next ht)
    rwa [tickInterval_of_ne (by simp [hm])] at hfit
  rw [exec_poll_decodes hm hstop (by simp) hfit] at ht
  have clean := outcomeOf_next ht
  have recount : countError true { s with now := s.now + s.cfg.pollInterval } =
      { countError false { s with now := s.now + s.cfg.pollInterval } with errCount := s.errCount + 1 } := rfl
  rw [exec_poll_decodes hm hstop (fun _ => hlim) hfit, recount, decodeSample_withErrCount]
  simp only [Bool.true_or, Bool.false_or] at clean ⊢
  rw [clean]
  rfl

/-! ## After `CLOSE` -/

/-- `CLOSE` of a running block signals its sampler and releases the lines (rule R173). -/
theorem closeBlock_of_running {s : State} (h : s.mode = .running) :
    closeBlock s = { s with stopFlag := true, linesOpen := false } := by
  simp [closeBlock, h]

/-- Settles O37: the stop that `CLOSE` leaves pending turns the drains away, and the next tick finds it (O17). -/
theorem closeStopsAtNextTick : Obligations.CloseStopsAtNextTick := by
  intro s t e c d b hm htime ht
  rw [exec_close, closeBlock_of_running hm] at ht
  cases ht
  refine ⟨exec_rdsteps_of_closed ?_, exec_rdpress_of_closed ?_, _, stopCheckStopsSampler _ e c d b hm rfl ?_, rfl⟩
  · simp [drainsOpen]
  · simp [drainsOpen]
  · simp [htime]

/-! ## A disabled block -/

/-- The responses of a disabled block to every event but `CLOSE`: an empty drain, the status word 2, `BUSY` or
`BAD_CMD`. -/
def isDisabledRsp (r : Rsp) : Prop :=
  r = { status := .ok, value := some (.steps 0) } ∨ r = { status := .ok, value := some (.press false) } ∨
  r = { status := .ok, value := some (.stat 2) } ∨ r = { status := .busy, value := none } ∨
  r = { status := .badCmd, value := none }

/-- From `s` to `t` a disabled block that meets the invariant stays one, and gives only the responses of a disabled
block. -/
def StaysDisabled (s t : State) : Prop :=
  s.Inv → s.mode = .disabled →
    t.Inv ∧ t.mode = .disabled ∧ ∃ new, t.observed = new ++ s.observed ∧ ∀ r ∈ new, isDisabledRsp r

namespace StaysDisabled

variable {s t u : State}

/-- Where the host receives no response. -/
theorem of_observed_eq (hinv : s.Inv → t.Inv) (hmode : s.mode = .disabled → t.mode = .disabled)
    (hobs : t.observed = s.observed) : StaysDisabled s t :=
  fun h hm => ⟨hinv h, hmode hm, [], hobs, by simp⟩

protected theorem refl (s : State) : StaysDisabled s s := of_observed_eq id id rfl

protected theorem trans (h : StaysDisabled s t) (h' : StaysDisabled t u) : StaysDisabled s u := by
  intro hs hm
  obtain ⟨ht, htm, first, observed, answers⟩ := h hs hm
  obtain ⟨hu, hum, second, observed', answers'⟩ := h' ht htm
  refine ⟨hu, hum, second ++ first, by rw [observed', observed, List.append_assoc], fun r hr => ?_⟩
  rcases List.mem_append.mp hr with hr | hr
  · exact answers' r hr
  · exact answers r hr

/-- One more response. -/
protected theorem respond {status : Status} {value : Option RspValue} (h : StaysDisabled s t)
    (hr : s.Inv → s.mode = .disabled → isDisabledRsp { status, value }) :
    StaysDisabled s (respond status value t) := by
  intro hs hm
  obtain ⟨ht, htm, new, observed, answers⟩ := h hs hm
  refine ⟨ht.of_records rfl, htm, { status, value } :: new, by rw [respond_observed, observed]; rfl, ?_⟩
  rw [List.forall_mem_cons]
  exact ⟨hr hs hm, answers⟩

/-- No tick takes a block out of `DISABLED` (rule R104). -/
protected theorem pollTick {e c d b : Bool} (h : pollTick e c d b s = .ok t) : StaysDisabled s t := by
  refine of_observed_eq (fun hs => hs.pollTick h) (fun hm => ?_) (by rw [pollTick_frame h])
  obtain kept | ⟨running, -⟩ := pollTick_mode h
  · rw [kept, hm]
  · rw [hm] at running
    cases running

protected theorem environmentTick (h : environmentTick s = .ok t) : StaysDisabled s t := by
  obtain ⟨e, c, d, b, u, hu, ⟨w, rest, -, -, rfl⟩ | rfl⟩ := environmentTick_ok h
  · have taken : StaysDisabled s { s with inputs := rest } := of_observed_eq (fun hs => hs.of_records rfl) id rfl
    exact taken.trans (.pollTick hu)
  · have drawn : StaysDisabled s { s with draws := s.draws + 1 } := of_observed_eq (fun hs => hs.of_records rfl) id rfl
    exact drawn.trans (.pollTick hu)

/-- `RDSTEPS` is admitted, and the invariant says that the cell it drains is empty (rule R192). -/
theorem readSteps (s : State) :
    StaysDisabled s (respond (drainSteps s).1.status (drainSteps s).1.value (drainSteps s).2) := by
  have drained : StaysDisabled s (drainSteps s).2 :=
    of_observed_eq (fun hs => hs.drainSteps) (by rw [drainSteps_state]; exact id) (by rw [drainSteps_state])
  refine drained.respond fun hs hm => .inl ?_
  obtain ⟨empty, -⟩ := hs.disabled_empty hm
  rw [drainSteps_response, if_pos (hs.drainsOpen_of_disabled hm), empty]

/-- `RDPRESS`, as `RDSTEPS`. -/
theorem readPress (s : State) :
    StaysDisabled s (respond (drainPress s).1.status (drainPress s).1.value (drainPress s).2) := by
  have drained : StaysDisabled s (drainPress s).2 :=
    of_observed_eq (fun hs => hs.drainPress) (by rw [drainPress_state]; exact id) (by rw [drainPress_state])
  refine drained.respond fun hs hm => .inr (.inl ?_)
  obtain ⟨-, clear⟩ := hs.disabled_empty hm
  rw [drainPress_response, if_pos (hs.drainsOpen_of_disabled hm), clear]

protected theorem execBurst (h : execBurst s = .next t) : StaysDisabled s t := by
  unfold execBurst at h
  split at h
  next a u hu =>
    cases h
    have pairs : StaysDisabled s u :=
      burstPairs_rel StaysDisabled (refl := .refl) (trans := fun _ _ _ => .trans) (tick := fun _ _ => .environmentTick)
        (turn := fun _ _ => of_observed_eq (fun hu => hu.of_records rfl) id rfl) (readSteps := readSteps)
        (readPress := readPress) _ _ _ _ _ hu
    exact pairs.trans (of_observed_eq (fun hu => hu.of_records rfl) id rfl)
  next => cases h

/-- `START` is turned away (rule R170). -/
protected theorem execStart {e c d b : Bool} (h : execStart e c d b s = .next t) : StaysDisabled s t := by
  intro hs hm
  have busy : startBusy s = true := by simp [startBusy, hm]
  unfold execStart at h
  rw [if_pos busy] at h
  cases h
  exact (StaysDisabled.refl s).respond (fun _ _ => .inr (.inr (.inr (.inl rfl)))) hs hm

/-- `RDSTAT` reads the mode `DISABLED` with no stop pending (rule R176). -/
theorem readStatus (s : State) : StaysDisabled s (respond .ok (some (.stat (statWord s))) s) := by
  refine (StaysDisabled.refl s).respond fun hs hm => .inr (.inr (.inl ?_))
  rw [statWord_eq, hm, hs.stop_clear (.inr hm)]
  rfl

/-- Every event but `CLOSE`. -/
protected theorem exec {w : Byte} {i : Instr} (hw : decodeE8 w = .ok i) (hi : i ≠ .close) (h : exec i s = .next t) :
    StaysDisabled s t := by
  obtain ⟨e, c, d, b, rfl⟩ | ⟨e, c, d, b, rfl⟩ | rfl | rfl | rfl | rfl := decodeE8_ok hw
  · exact .pollTick (outcomeOf_next h)
  · exact .execStart h
  · cases h; exact readSteps s
  · cases h; exact readPress s
  · exact absurd rfl hi
  · cases h; exact readStatus s

/-- Every step whose entry is not `CLOSE`. -/
protected theorem step (hclose : ∀ w, .event w ∈ s.inputs → decodeE8 w ≠ .ok .close) (h : step s = .next t) :
    StaysDisabled s t := by
  cases hin : s.inputs with
  | nil => rw [step_ended hin] at h; cases h; exact .refl s
  | cons entry rest =>
    have taken : StaysDisabled s { s with inputs := rest } := of_observed_eq (fun hs => hs.of_records rfl) id rfl
    refine taken.trans ?_
    cases entry with
    | configure k =>
      rw [step_configure hin] at h
      cases h
      exact of_observed_eq (fun hs => hs.of_records rfl) id rfl
    | burst => rw [step_burst hin] at h; exact .execBurst h
    | event w =>
      rw [step_event hin] at h
      cases hw : decodeE8 w with
      | error r =>
        rw [hw] at h
        cases h
        exact (StaysDisabled.refl _).respond fun _ _ => .inr (.inr (.inr (.inr rfl)))
      | ok i =>
        rw [hw] at h
        have admitted : i ≠ .close := fun hi => hclose w (by simp [hin]) (by rw [hw, hi])
        exact .exec hw admitted h

end StaysDisabled

/-- A step adds nothing to the stream: what it leaves of it is its end (rule R57). -/
theorem step_inputs_suffix {s t : State} (h : step s = .next t) : t.inputs <:+ s.inputs := by
  have popped {x : Input} {rest : List Input} (hin : s.inputs = x :: rest) : rest <:+ s.inputs := by
    rw [hin]; exact List.suffix_cons x rest
  cases step_effect h with
  | ended hin => exact List.suffix_rfl
  | polled hin hw ht => rw [pollTick_frame ht]; exact popped hin
  | started hin hw hmode hcfg => exact popped hin
  | answered hin hw hvalue => exact popped hin
  | stepsRead hin hw => rw [respond_inputs, drainSteps_state]; exact popped hin
  | pressRead hin hw => rw [respond_inputs, drainPress_state]; exact popped hin
  | closed hin hw => rw [respond_inputs, closeBlock_frame]; exact popped hin
  | configured hin => exact popped hin
  | burst hin ht =>
    obtain ⟨ticks, split, -⟩ := (BurstKeeps.execBurst ht).inputs
    exact .trans ⟨ticks, split.symm⟩ (popped hin)

/-- A run over a stream without `CLOSE` composes its steps. -/
theorem runSteps_staysDisabled {k : Nat} {s t : State}
    (hclose : ∀ w, .event w ∈ s.inputs → decodeE8 w ≠ .ok .close) (h : runSteps k s = some t) :
    StaysDisabled s t := by
  induction k generalizing s with
  | zero => cases h; exact .refl _
  | succ k ih =>
    unfold runSteps at h
    split at h
    next u hu =>
      have later : ∀ w, .event w ∈ u.inputs → decodeE8 w ≠ .ok .close :=
        fun w hw => hclose w ((step_inputs_suffix hu).subset hw)
      exact (StaysDisabled.step hclose hu).trans (ih later h)
    next => cases h

/-- Settles O52, by `runSteps_staysDisabled`. -/
theorem disabledUntilClose : Obligations.DisabledUntilClose := by
  intro k s t hs hm hclose h
  obtain ⟨-, disabled, answers⟩ := runSteps_staysDisabled hclose h hs hm
  exact ⟨disabled, answers⟩

end Sys2Proof.Machine

/-! # Quadrature: the table, one detent per poll, and the detents of a run (41_quadrature.md rules R120 to R142)

A row of the table is `applyRow` of its index, so the value of its entry says what it does to `accum`. A sample moves
`accum` by at most one transition, and the invariant keeps it short of one detent between events; so a poll completes
at most one, and completes it exactly. Along a run the account of rule R36 is the drained detents with what is in the
cell, times `PPR`, and a remainder shorter than `PPR`. -/

namespace Sys2Proof.Machine

/-! ## The structure of the table -/

/-- The table is antisymmetric, and it is not 0 exactly on the pairs that differ in one bit. -/
theorem tt_tableIndex_pair : ∀ a b : QState, tt (tableIndex a b) = -tt (tableIndex b a) ∧
    (tt (tableIndex a b) ≠ 0 ↔ a ^^^ b = 0b01#2 ∨ a ^^^ b = 0b10#2) := by
  decide

/-- Settles O8: the sixteen pairs, then the four entries of the forward cycle. -/
theorem tableStructure : Obligations.TableStructure :=
  ⟨tt_tableIndex_pair, rfl, rfl, rfl, rfl⟩

/-- An entry of the table is one transition in either direction, or none. -/
theorem tt_range : ∀ i : Nibble, -1 ≤ tt i ∧ tt i ≤ 1 := by decide

/-! ## The rows as operations -/

section Rows

variable {i : Nibble} {row : Instr} {new : QState} (s : State)

/-- A row adds `DIR` times its entry to `accum` and moves `prev_state` to its new state (rules R120 and R138). -/
theorem exec_row_of_tt {v : Int} (hrow : decodeI4 i = row) (hnew : indexNew i = new) (htt : tt i = v) :
    exec row s = .next { s with accum := s.accum + s.cfg.dir * v, prevState := new } := by
  rw [← hrow, exec_row, applyRow, hnew, htt]

/-- A row whose entry is 0, a hold or an invalid one, moves `prev_state` alone. -/
theorem exec_row_of_tt_zero (hrow : decodeI4 i = row) (hnew : indexNew i = new) (htt : tt i = 0) :
    exec row s = .next { s with prevState := new } ∧ tt i = 0 := by
  rw [exec_row_of_tt s hrow hnew htt, mul_zero, add_zero]
  exact ⟨rfl, htt⟩

/-- A forward row adds `DIR`. -/
theorem exec_row_of_tt_one (hrow : decodeI4 i = row) (hnew : indexNew i = new) (htt : tt i = 1) :
    exec row s = .next { s with accum := s.accum + s.cfg.dir, prevState := new } ∧ tt i = 1 := by
  rw [exec_row_of_tt s hrow hnew htt, mul_one]
  exact ⟨rfl, htt⟩

/-- A backward row subtracts `DIR`. -/
theorem exec_row_of_tt_neg_one (hrow : decodeI4 i = row) (hnew : indexNew i = new) (htt : tt i = -1) :
    exec row s = .next { s with accum := s.accum - s.cfg.dir, prevState := new } ∧ tt i = -1 := by
  rw [exec_row_of_tt s hrow hnew htt, mul_neg_one, ← sub_eq_add_neg]
  exact ⟨rfl, htt⟩

/-- A row with entry 0 whose new state is already in `prev_state` changes nothing. -/
theorem exec_row_of_hold (hrow : decodeI4 i = row) (hnew : indexNew i = new) (htt : tt i = 0)
    (hprev : s.prevState = new) : exec row s = .next s := by
  obtain ⟨moved, -⟩ := exec_row_of_tt_zero s hrow hnew htt
  rw [moved, ← hprev]

end Rows

/-- Settles O9, row by row. -/
theorem holdRowsChangeNothing : Obligations.HoldRowsChangeNothing := fun s =>
  ⟨exec_row_of_tt_zero s rfl rfl rfl, exec_row_of_tt_zero s rfl rfl rfl, exec_row_of_tt_zero s rfl rfl rfl,
    exec_row_of_tt_zero s rfl rfl rfl, exec_row_of_hold (i := 0b0000#4) s rfl rfl rfl,
    exec_row_of_hold (i := 0b0101#4) s rfl rfl rfl, exec_row_of_hold (i := 0b1010#4) s rfl rfl rfl,
    exec_row_of_hold (i := 0b1111#4) s rfl rfl rfl⟩

/-- Settles O10, row by row. -/
theorem invalidRowsMoveStateOnly : Obligations.InvalidRowsMoveStateOnly := fun s =>
  ⟨exec_row_of_tt_zero s rfl rfl rfl, exec_row_of_tt_zero s rfl rfl rfl, exec_row_of_tt_zero s rfl rfl rfl,
    exec_row_of_tt_zero s rfl rfl rfl⟩

/-- Settles O11, row by row. -/
theorem forwardRowsAddDir : Obligations.ForwardRowsAddDir := fun s =>
  ⟨exec_row_of_tt_one s rfl rfl rfl, exec_row_of_tt_one s rfl rfl rfl, exec_row_of_tt_one s rfl rfl rfl,
    exec_row_of_tt_one s rfl rfl rfl⟩

/-- Settles O12, row by row. -/
theorem backwardRowsSubtractDir : Obligations.BackwardRowsSubtractDir := fun s =>
  ⟨exec_row_of_tt_neg_one s rfl rfl rfl, exec_row_of_tt_neg_one s rfl rfl rfl, exec_row_of_tt_neg_one s rfl rfl rfl,
    exec_row_of_tt_neg_one s rfl rfl rfl⟩

/-! ## One detent per poll -/

/-- With a legal `DIR` a row moves `accum` by at most one transition. -/
theorem dir_mul_tt_range {r : Cfg} (h : cfgLegal r = true) (i : Nibble) :
    -1 ≤ r.dir * tt i ∧ r.dir * tt i ≤ 1 := by
  obtain ⟨-, hdir, -⟩ := (cfgLegal_iff r).mp h
  have range := tt_range i
  rcases hdir with hdir | hdir <;> rw [hdir] <;> omega

/-- A detent step on at most one detent moves none, or exactly that one and leaves no remainder. -/
theorem detent_of_natAbs_le {s t : State} (h : detent s = .ok t) (hp : 0 < s.cfg.ppr)
    (ha : (s.accum.natAbs : Int) ≤ s.cfg.ppr) :
    t.steps = s.steps ∨ ((t.steps = s.steps - 1 ∨ t.steps = s.steps + 1) ∧ t.accum = 0) := by
  obtain ⟨-, rfl⟩ | ⟨hreach, -, rfl⟩ := detent_ok h
  · exact .inl rfl
  right
  have one : trunc s.cfg.ppr s.cfg.ppr = 1 := Int.tdiv_self hp.ne'
  obtain ha | ha : s.accum = s.cfg.ppr ∨ s.accum = -s.cfg.ppr := by omega
  · simp [ha, one]
  · simp [ha, trunc_neg, one, sub_eq_add_neg]

/-- Settles O24: the row brings `accum` to one detent at most, and the button step writes neither cell. -/
theorem oneDetentPerPoll : Obligations.OneDetentPerPoll := by
  intro s t e c d b hinv hs h ht
  obtain ⟨-, u, hu, rfl⟩ := pollTick_running_ok (outcomeOf_next h) hs ht
  have legal := hinv.cfg_legal (.inl hs)
  obtain ⟨lower, upper⟩ := hinv.accum_range (.inl hs)
  have short : ∀ i, ((s.accum + s.cfg.dir * tt i).natAbs : Int) ≤ s.cfg.ppr := fun i => by
    have := dir_mul_tt_range legal i
    omega
  rw [btn_eq]
  obtain kept | ⟨moved, empty⟩ := detent_of_natAbs_le hu (ppr_pos_of_cfgLegal legal) (short _)
  · exact ⟨.inr (.inl kept), fun hne => absurd kept hne⟩
  · exact ⟨moved.imp_right .inr, fun _ => empty⟩

/-! ## The detents of a run -/

/-- A run that keeps the block running ends in a running block with the same configuration, and in the invariant. -/
theorem runSteps_of_keepsRunning {k : Nat} {s t : State} (hinv : s.Inv) (hk : keepsRunning k s)
    (h : runSteps k s = some t) : t.Inv ∧ t.mode = .running ∧ t.cfg = s.cfg := by
  induction k generalizing s with
  | zero => cases h; exact ⟨hinv, hk, rfl⟩
  | succ k ih =>
    obtain ⟨hs, hb, u, hu, hk⟩ := hk
    obtain ⟨cfg, -⟩ := step_account hu hs (keepsRunning_mode hk) hb
    rw [← cfg]
    exact ih (stepKeepsInvariant s u hinv hu) hk (by simpa [runSteps, hu] using h)

/-- From an empty account, what a run decoded is `n` whole detents, drained or in the cell, and a remainder in `accum`
shorter than one (rules R35 and R36). -/
theorem runDelta_eq_detents {k : Nat} {s : State} (hinv : s.Inv) (hk : keepsRunning k s) (ha : s.accum = 0)
    (hs : s.steps = 0) :
    ∃ t new, runSteps k s = some t ∧ t.observed = new ++ s.observed ∧
      runDelta k s = (drainedSum new + t.steps) * s.cfg.ppr + t.accum ∧ |t.accum| < s.cfg.ppr := by
  obtain ⟨t, new, hrun, hnew, account⟩ := transitionsConserved k s hk
  obtain ⟨tinv, hm, cfg⟩ := runSteps_of_keepsRunning hinv hk hrun
  obtain ⟨lower, upper⟩ := tinv.accum_range (.inl hm)
  rw [cfg] at lower upper
  refine ⟨t, new, hrun, hnew, ?_, ?_⟩
  · rw [account, ha, hs]; ring
  · rw [abs_lt]; omega

/-- A quotient with a remainder of either sign shorter than the divisor is the floor or the ceiling. -/
theorem eq_floor_or_ceil_of_remainder {n p a : Int} (ha : |a| < p) :
    n = (n * p + a) / p ∨ n = -(-(n * p + a) / p) := by
  have hp : p ≠ 0 := by have := abs_nonneg a; omega
  obtain ⟨lower, upper⟩ := abs_lt.mp ha
  rcases le_total 0 a with h | h
  · left
    rw [add_comm, Int.add_mul_ediv_right _ _ hp, Int.ediv_eq_zero_of_lt h upper, zero_add]
  · right
    have split : -(n * p + a) = -a + -n * p := by ring
    rw [split, Int.add_mul_ediv_right _ _ hp, Int.ediv_eq_zero_of_lt (by omega) (by omega), zero_add, neg_neg]

/-- Settles O56: floor where the remainder in `accum` is not negative, ceiling where it is not positive. -/
theorem reportedIsFloorOrCeil : Obligations.ReportedIsFloorOrCeil := by
  intro k s hinv hk ha hs
  obtain ⟨t, new, hrun, hnew, delta, short⟩ := runDelta_eq_detents hinv hk ha hs
  refine ⟨t, new, hrun, hnew, ?_⟩
  rw [delta]
  exact eq_floor_or_ceil_of_remainder short

/-- Settles O55: floor and ceiling of 0 are 0, so no detent is reported, and `accum` is the whole account. -/
theorem oppositeSequencesCancel : Obligations.OppositeSequencesCancel := by
  intro k s hinv hk ha hs hzero
  obtain ⟨t, new, hrun, hnew, delta, short⟩ := runDelta_eq_detents hinv hk ha hs
  have reported : drainedSum new + t.steps = 0 := by
    simpa [← delta, hzero] using eq_floor_or_ceil_of_remainder (n := drainedSum new + t.steps) short
  refine ⟨t, new, hrun, hnew, ?_, reported⟩
  rw [hzero, reported, zero_mul, zero_add] at delta
  exact delta.symm

end Sys2Proof.Machine

/-! # The button over several polls (42_button.md rules R150 to R159)

A poll that sees the button active is no release edge: it stamps a change to the active level, and latches a press once
the window has passed. From the first of them on the latch is therefore set exactly if the window has passed since the
stamp (`HeldSince`), and once it has been set and drained it is not set again (`State.spent`). -/

namespace Sys2Proof.Machine

/-! ## A button that is held through its window -/

/-- The word is a clean poll that sees the button active. -/
def isActivePoll (r : Cfg) (w : Byte) : Prop := ∃ c d, decodeE8 w = .ok (.poll false c d r.activeLevel)

/-- A clean poll of the block reaches the decode and does not fault. -/
structure PollsFreely (s : State) : Prop where
  mode : s.mode = .running
  stopFlag : s.stopFlag = false
  stepsW : s.params.stepsW = none
  timeW : s.params.timeW = none

/-- What `last_button_change_time` is once the next poll has seen the button active (rule R151). -/
def activeSince (s : State) : Nat :=
  if s.cfg.activeLevel = s.lastButtonLevel then s.lastButtonChangeTime else s.now + s.cfg.pollInterval

/-- The button has been seen active since `since`, and the polls of that time have set the latch, with its block,
exactly if the window has passed (rules R153 and R154). -/
structure HeldSince (since : Nat) (s : State) : Prop where
  polls : PollsFreely s
  level : s.lastButtonLevel = s.cfg.activeLevel
  changeTime : s.lastButtonChangeTime = since
  latch : s.pressLatch = decide (s.cfg.debounceWindow ≤ s.now - since)
  blocked : s.pressBlocked = s.pressLatch

section Held

variable {s : State} {rest : List Input}

/-- One active poll, where the press is blocked only if its latch is still set: the latch is set after it exactly if the
window has passed by then. -/
theorem step_activePoll {w : Byte} (hw : isActivePoll s.cfg w) (hin : s.inputs = .event w :: rest)
    (hs : PollsFreely s) (hblocked : s.pressBlocked = s.pressLatch)
    (hlatch : s.pressLatch = true → s.cfg.debounceWindow ≤ s.now - activeSince s) :
    ∃ t, step s = .next t ∧ t.inputs = rest ∧ t.cfg = s.cfg ∧ t.now = s.now + s.cfg.pollInterval ∧
      HeldSince (activeSince s) t := by
  obtain ⟨c, d, hw⟩ := hw
  have effect := pollIterationEffect { s with inputs := rest } false c d s.cfg.activeLevel hs.mode hs.stopFlag nofun
    (by simp [hs.timeW]) (by simp [hs.stepsW])
  have polled : step s = exec (.poll false c d s.cfg.activeLevel) { s with inputs := rest } := by
    rw [step_event hin, hw]
  refine ⟨_, polled.trans effect, rfl, rfl, rfl, ?_⟩
  constructor
  case polls => exact ⟨hs.mode, hs.stopFlag, hs.stepsW, hs.timeW⟩
  case level => rfl
  case changeTime => simp [activeSince]
  case latch =>
    cases hl : s.pressLatch with
    | false => by_cases hlevel : s.cfg.activeLevel = s.lastButtonLevel <;> simp [hblocked, hl, activeSince, hlevel]
    | true =>
      have passed : s.cfg.debounceWindow ≤ s.now + s.cfg.pollInterval - activeSince s := by
        have := hlatch hl
        omega
      simp [passed]
  case blocked => simp [hblocked]

/-- Any number of active polls: the first one stamps, the others leave its stamp, and the latch follows the time that has
passed since (rules R153, R155 and R156). -/
theorem runSteps_activePolls {l : List Byte} (hne : l ≠ []) (hin : s.inputs = l.map Input.event ++ rest)
    (hl : ∀ w ∈ l, isActivePoll s.cfg w) (hs : PollsFreely s) (hblocked : s.pressBlocked = s.pressLatch)
    (hlatch : s.pressLatch = true → s.cfg.debounceWindow ≤ s.now - activeSince s) :
    ∃ t, runSteps l.length s = some t ∧ t.inputs = rest ∧ t.cfg = s.cfg ∧
      t.now = s.now + l.length * s.cfg.pollInterval ∧ HeldSince (activeSince s) t := by
  induction l generalizing s with
  | nil => exact absurd rfl hne
  | cons w ws ih =>
    obtain ⟨hw, hws⟩ := List.forall_mem_cons.mp hl
    obtain ⟨u, hu, uin, ucfg, unow, held⟩ := step_activePoll hw hin hs hblocked hlatch
    have run : runSteps (w :: ws).length s = runSteps ws.length u := by simp [runSteps, hu]
    by_cases hnil : ws = []
    · subst hnil
      exact ⟨u, run, uin, ucfg, by simpa using unow, held⟩
    · have stamp : activeSince u = activeSince s := by rw [activeSince, if_pos held.level.symm, held.changeTime]
      have passed : u.pressLatch = true → u.cfg.debounceWindow ≤ u.now - activeSince u := by
        rw [stamp, held.latch]; exact of_decide_eq_true
      rw [← ucfg] at hws
      obtain ⟨t, ht, tin, tcfg, tnow, theld⟩ := ih hnil uin hws held.polls held.blocked passed
      rw [stamp] at theld
      refine ⟨t, run.trans ht, tin, tcfg.trans ucfg, ?_, theld⟩
      rw [tnow, unow, ucfg, List.length_cons]
      ring

end Held

/-- Settles O25: the first poll stamps its own time, so the last one falls `n - 1` intervals after the stamp. -/
theorem latchSetAfterWindow : Obligations.LatchSetAfterWindow := by
  intro l rest s hne hin hl hm hstop hsteps htime hlevel hblocked hlatch
  have stamp : activeSince s = s.now + s.cfg.pollInterval := if_neg hlevel.symm
  obtain ⟨t, ht, tin, cfg, now, held⟩ :=
    runSteps_activePolls hne hin hl ⟨hm, hstop, hsteps, htime⟩ (hblocked.trans hlatch.symm) (by simp [hlatch])
  rw [stamp] at held
  refine ⟨t, ht, tin, ?_, held.blocked, held.changeTime⟩
  rw [held.latch, cfg, now, Nat.add_sub_add_left, ← Nat.sub_one_mul]

/-- A `START` that sees the button active stamps its own time, and has latched and blocked nothing (rules R37 and
R159). -/
theorem exec_start_active {s t : State} {c d : Bool} {r : Cfg} (hm : s.dormant) (hr : presentedCfg s.cfgIn = some r)
    (hsteps : s.params.stepsW = none) (htime : s.params.timeW = none)
    (h : exec (.start false c d r.activeLevel) s = .next t) :
    PollsFreely t ∧ activeSince t = s.now ∧ t.pressBlocked = false ∧ t.pressLatch = false ∧
      t.cfg = r ∧ t.now = s.now ∧ t.lastButtonChangeTime = s.now ∧ t.inputs = s.inputs := by
  rw [startResetsEveryElement s false c d r.activeLevel r hm hr] at h
  cases h
  exact ⟨⟨rfl, rfl, hsteps, htime⟩, if_pos (Bool.false_or r.activeLevel).symm, rfl, rfl, rfl, rfl, rfl, rfl⟩

/-- Settles O26: the polls leave the time that `START` stamped, and without any poll nothing has latched. -/
theorem heldAtStartLatches : Obligations.HeldAtStartLatches := by
  intro l rest s t c d r hm hr hin hl hsteps htime h
  obtain ⟨polls, stamp, blocked, clear, cfg, now, changed, inputs⟩ := exec_start_active hm hr hsteps htime h
  rw [← inputs] at hin
  by_cases hne : l = []
  · subst hne
    exact ⟨t, rfl, hin, changed, by simp [clear]⟩
  · obtain ⟨u, hu, uin, ucfg, unow, held⟩ :=
      runSteps_activePolls hne hin (by rw [cfg]; exact hl) polls (blocked.trans clear.symm) (by simp [clear])
    rw [stamp] at held
    refine ⟨u, hu, uin, held.changeTime, ?_⟩
    rw [held.latch, ucfg, unow, cfg, now, Nat.add_sub_cancel_left]
    simp [hne]

/-! ## A button that stays held after its latch -/

/-- The press has latched and its latch has been drained (rule R154). -/
def State.spent (s : State) : Prop := s.pressBlocked = true ∧ s.pressLatch = false

/-- The word is a read, or a poll that sees the button active, errored or not. -/
def isHeldEvent (r : Cfg) (w : Byte) : Prop :=
  decodeE8 w = .ok .rdsteps ∨ decodeE8 w = .ok .rdpress ∨ decodeE8 w = .ok .rdstat ∨
    ∃ e c d b, decodeE8 w = .ok (.poll e c d b) ∧ (e || b) = r.activeLevel

namespace State.spent

variable {s t : State}

/-- `BTN` at the active level sees no release edge: a blocked press stays blocked, and does not latch again (rules R152
and R153). -/
protected theorem btn (h : s.spent) : (btn s.cfg.activeLevel s).spent := by
  obtain ⟨blocked, latch⟩ := h
  have held : releaseEdge s.cfg.activeLevel s = false := by simp [releaseEdge]
  have quiet : latchNow s.cfg.activeLevel s = false := by simp [latchNow, held, blocked]
  rw [btn_eq, held, quiet, blocked, latch]
  exact ⟨rfl, rfl⟩

/-- A tick that sees the button active, whether it decodes, disables, stops or only advances the time. -/
protected theorem pollTick {e c d b : Bool} (h : s.spent) (hb : (e || b) = s.cfg.activeLevel)
    (ht : pollTick e c d b s = .ok t) : t.spent := by
  obtain ⟨-, ⟨-, rfl⟩ | ⟨-, hi⟩⟩ := pollTick_ok ht
  · exact h
  obtain ⟨-, rfl⟩ | ⟨-, -, rfl⟩ | ⟨-, -, u, hu, rfl⟩ := pollIteration_ok hi
  · exact h
  · exact ⟨h.left, rfl⟩
  · have spent : u.spent := by rw [detent_frame hu]; exact h
    have level : (sampleLevels e c d b).sw = u.cfg.activeLevel := by
      rw [sampleLevels_eq, detent_frame hu]; exact hb
    rw [level]
    exact spent.btn

/-- A drain clears the latch alone, so it does not re-arm the press. -/
protected theorem step {w : Byte} {rest : List Input} (h : s.spent) (hin : s.inputs = .event w :: rest)
    (hw : isHeldEvent s.cfg w) (ht : step s = .next t) : t.spent ∧ t.cfg = s.cfg ∧ t.inputs = rest := by
  obtain ⟨blocked, latch⟩ := h
  rw [step_event hin] at ht
  obtain hw | hw | hw | ⟨e, c, d, b, hw, hb⟩ := hw <;> rw [hw] at ht
  · cases ht
    simp [spent, drainSteps_state, blocked, latch]
  · cases ht
    simp [spent, drainPress_state, blocked, latch]
  · cases ht
    exact ⟨⟨blocked, latch⟩, rfl, rfl⟩
  · have tick := outcomeOf_next ht
    have frame := pollTick_frame tick
    exact ⟨State.spent.pollTick (s := { s with inputs := rest }) ⟨blocked, latch⟩ hb tick, by rw [frame], by rw [frame]⟩

end State.spent

/-- Settles O28, by induction on the run. -/
theorem heldButtonLatchesOnce : Obligations.HeldButtonLatchesOnce := by
  intro k
  induction k with
  | zero =>
    intro s t _ blocked latch h
    cases h
    exact ⟨latch, blocked⟩
  | succ k ih =>
    intro s t events blocked latch h
    cases hin : s.inputs with
    | nil =>
      rw [runSteps, step_ended hin] at h
      exact ih s t (by simp [hin]) blocked latch h
    | cons x rest =>
      rw [hin, List.take_succ_cons] at events
      obtain ⟨⟨w, rfl, hw⟩, later⟩ := List.forall_mem_cons.mp events
      unfold runSteps at h
      split at h
      next u hu =>
        obtain ⟨⟨ublocked, ulatch⟩, cfg, uin⟩ := State.spent.step ⟨blocked, latch⟩ hin hw hu
        rw [← uin, ← cfg] at later
        exact ih u t later ublocked ulatch h
      next => cases h

end Sys2Proof.Machine

/-! # The host's commands (43_host_commands.md rules R170 to R176)

A command that is turned away answers and does nothing else; `CLOSE` finds nothing left to do after itself. A `BURST` is
its pairs put together: each pair puts two responses before the host and adds them to the tally, and with unbounded
widths no tick in it faults. -/

namespace Sys2Proof.Machine

/-! ## `START` turned away -/

/-- Settles O31: `BUSY` is answered before the configuration is looked at. -/
theorem startTurnedAway : Obligations.StartTurnedAway := by
  intro s e c d b
  refine ⟨fun hm => ?_, fun hm hr => ?_⟩
  · have busy : startBusy s = true := by simpa [startBusy] using hm
    rw [exec_start, execStart, if_pos busy]
    rfl
  · have admitted : ¬ startBusy s = true := by simp [startBusy_eq_false.mpr hm]
    rw [exec_start, execStart, if_neg admitted, hr]
    rfl

/-! ## `CLOSE` -/

/-- `CLOSE` stops a disabled block at once, since no sampler is left to signal (rule R173). -/
theorem closeBlock_of_disabled {s : State} (h : s.mode = .disabled) :
    closeBlock s = { s with stopFlag := true, mode := .stopped, linesOpen := false } := by
  simp [closeBlock, h]

/-- Settles O36, mode by mode. The model keeps the counters of the block it stops (log entry 11). -/
theorem closeEffect : Obligations.CloseEffect := by
  intro s
  refine ⟨fun hm => ?_, fun hm => ⟨_, exec_close s, ?_⟩, fun hm => ?_⟩
  · rw [exec_close, closeBlock_of_running hm]
    rfl
  · rw [closeBlock_of_disabled hm]
    rfl
  · rw [exec_close, State.dormant.closeBlock_eq hm]
    rfl

theorem closeBlock_respond (status : Status) (value : Option RspValue) (s : State) :
    closeBlock (respond status value s) = respond status value (closeBlock s) := by
  cases h : s.mode <;> simp [closeBlock, respond, h]

/-- What `CLOSE` leaves is still closing, or dormant with its lines released. -/
theorem closeBlock_closeBlock (s : State) : closeBlock (closeBlock s) = closeBlock s := by
  cases hm : s.mode with
  | running => rw [closeBlock_of_running hm]; exact closeBlock_of_running hm
  | disabled => rw [closeBlock_of_disabled hm]; exact State.dormant.closeBlock_eq (.inr rfl)
  | idle => rw [State.dormant.closeBlock_eq (.inl hm)]; exact State.dormant.closeBlock_eq (.inl hm)
  | stopped => rw [State.dormant.closeBlock_eq (.inr hm)]; exact State.dormant.closeBlock_eq (.inr hm)

/-- Settles O38, by `closeBlock_closeBlock`. -/
theorem closeIsIdempotent : Obligations.CloseIsIdempotent := by
  intro s t ht
  rw [exec_close] at ht
  cases ht
  rw [exec_close, closeBlock_respond, closeBlock_closeBlock]
  rfl

/-! ## `RDSTAT` -/

/-- The word 0xA0 and no other is `RDSTAT`. -/
theorem decodeE8_rdstat_iff (w : Byte) : decodeE8 w = .ok .rdstat ↔ w = 0xA0#8 := by
  refine ⟨fun h => (Code.e8.inj (encode_of_decodeE8 h)).symm, ?_⟩
  rintro rfl
  rfl

/-- Settles O39: the fields of `statWord` stand at bits 2 and 1:0. -/
theorem statusWordRead : Obligations.StatusWordRead := by
  refine ⟨decodeE8_rdstat_iff, fun s => ⟨statWord s, exec_rdstat s, ?_⟩⟩
  rw [statWord_eq]
  cases s.stopFlag <;> cases s.mode <;> rfl

/-! ## No tick faults with unbounded widths (rules R194 and R195) -/

/-- `STEPS_W` and `TIME_W` are left at their default (rule R8). -/
def Params.unbounded (p : Params) : Prop := p.stepsW = none ∧ p.timeW = none

section Total

variable {s : State}

theorem decodeSample_total (l : Levels) (h : s.params.stepsW = none) : ∃ t, decodeSample l s = .ok t :=
  ⟨_, decodeSample_of_fits fun _ => by rw [h, stepsFits_none]⟩

theorem pollIteration_total (e c d b : Bool) (h : s.params.stepsW = none) : ∃ t, pollIteration e c d b s = .ok t := by
  cases hstop : s.stopFlag with
  | true => exact ⟨_, pollIteration_stops hstop⟩
  | false =>
    cases hlim : errLimitHit e s with
    | true => exact ⟨_, pollIteration_disables hstop hlim⟩
    | false =>
      rw [pollIteration_decodes hstop hlim]
      exact decodeSample_total _ h

theorem pollTick_total (e c d b : Bool) (h : Params.unbounded s.params) : ∃ t, pollTick e c d b s = .ok t := by
  obtain ⟨steps, time⟩ := h
  have hfit (n : Nat) : timeFits s.params.timeW n = true := by rw [time, timeFits_none]
  by_cases hm : s.mode = .running
  · rw [pollTick_running hm (hfit _)]
    exact pollIteration_total e c d b steps
  · rw [pollTick_of_ne_running hm]
    exact ⟨_, advanceTime_of_fits (hfit _)⟩

theorem environmentTick_total (h : Params.unbounded s.params) : ∃ t, environmentTick s = .ok t := by
  have free : ∃ t, freeTick s = .ok t := pollTick_total (s := { s with draws := s.draws + 1 }) _ _ _ _ h
  unfold environmentTick
  split
  next w rest _ =>
    split
    next e c d b _ => exact pollTick_total (s := { s with inputs := rest }) e c d b h
    next => exact free
  next => exact free

theorem runTicks_total (n : Nat) (h : Params.unbounded s.params) : ∃ t, runTicks n s = .ok t := by
  induction n generalizing s with
  | zero => exact ⟨s, rfl⟩
  | succ n ih =>
    obtain ⟨u, hu⟩ := environmentTick_total h
    unfold runTicks
    simp only [hu]
    exact ih (by rwa [environmentTick_params hu])

theorem burstGap_total (h : Params.unbounded s.params) : ∃ t, burstGap s = .ok t :=
  runTicks_total _ (by rwa [takeTurn_params])

theorem burstWait_total (h : Params.unbounded s.params) : ∃ t, burstWait s = .ok t :=
  runTicks_total _ (by rwa [waitTicks_params])

theorem burstPair_total (a : Tally) (h : Params.unbounded s.params) : ∃ b t, burstPair a s = .ok (b, t) := by
  have hdrained : Params.unbounded (drainSteps s).2.params := by rwa [drainSteps_params]
  obtain ⟨u, hu⟩ := burstGap_total
    (s := respond (drainSteps s).1.status (drainSteps s).1.value (drainSteps s).2) hdrained
  exact ⟨_, _, burstPair_of_gap a hu⟩

/-- Two or more pairs are one pair, a wait, and the others. -/
theorem burstPairs_of_pair_wait {a b : Tally} {t u : State} (n : Nat) (pair : burstPair a s = .ok (b, t))
    (wait : burstWait t = .ok u) : burstPairs (n + 2) a s = burstPairs (n + 1) b u := by
  rw [burstPairs]
  simp only [pair, wait]

theorem burstPairs_total (n : Nat) (a : Tally) (h : Params.unbounded s.params) :
    ∃ b t, burstPairs n a s = .ok (b, t) := by
  induction n generalizing a s with
  | zero => exact ⟨a, s, rfl⟩
  | succ n ih =>
    obtain ⟨b, t, pair⟩ := burstPair_total a h
    have ht : Params.unbounded t.params := by rwa [burstPair_params pair]
    cases n with
    | zero => exact ⟨b, t, by rw [burstPairs_one, pair]⟩
    | succ m =>
      obtain ⟨u, wait⟩ := burstWait_total ht
      rw [burstPairs_of_pair_wait m pair wait]
      exact ih b (by rwa [burstWait_params wait])

theorem execBurst_total (h : Params.unbounded s.params) : ∃ t, execBurst s = .next t := by
  obtain ⟨a, t, pairs⟩ := burstPairs_total s.params.nSamples { total := 0, any := false } h
  exact ⟨{ t with burstResult := some (a.total, a.any) }, by simp only [execBurst, pairs]⟩

end Total

/-! ## What the pieces of a burst do -/

section Pieces

variable {s t : State} {a b : Tally} {n : Nat}

/-- A pair is its two drains with the gap between them. -/
theorem burstPair_ok (h : burstPair a s = .ok (b, t)) :
    ∃ u, burstGap (respond (drainSteps s).1.status (drainSteps s).1.value (drainSteps s).2) = .ok u ∧
      b = { total := a.total + rspSteps (drainSteps s).1, any := a.any || rspPress (drainPress u).1 } ∧
      t = respond (drainPress u).1.status (drainPress u).1.value (drainPress u).2 := by
  unfold burstPair at h
  simp only at h
  split at h
  next u hu =>
    obtain ⟨rfl, rfl⟩ := Prod.mk.inj (Except.ok.inj h)
    exact ⟨u, hu, rfl, rfl⟩
  next => cases h

/-- What a burst returns is the tally of its pairs. -/
theorem execBurst_next (h : execBurst s = .next t) :
    ∃ a u, burstPairs s.params.nSamples { total := 0, any := false } s = .ok (a, u) ∧
      t = { u with burstResult := some (a.total, a.any) } := by
  unfold execBurst at h
  split at h
  next a u hu => cases h; exact ⟨a, u, hu, rfl⟩
  next => cases h

/-- A composing relation between tallies and states, counted in pairs, that a pair and a wait give holds across any
number of pairs. -/
theorem burstPairs_tally_rel {R : Nat → Tally → State → Tally → State → Prop} (refl : ∀ a s, R 0 a s a s)
    (trans : ∀ m n a s b t c u, R m a s b t → R n b t c u → R (m + n) a s c u)
    (pair : ∀ a s b t, burstPair a s = .ok (b, t) → R 1 a s b t)
    (wait : ∀ a s t, burstWait s = .ok t → R 0 a s a t) (h : burstPairs n a s = .ok (b, t)) : R n a s b t := by
  induction n generalizing a s with
  | zero => cases h; exact refl _ _
  | succ n ih =>
    unfold burstPairs at h
    split at h
    next c u hu =>
      have first := pair _ _ _ _ hu
      cases n with
      | zero => cases h; exact first
      | succ m =>
        simp only at h
        split at h
        next v hv =>
          rw [Nat.add_comm]
          exact trans _ _ _ _ _ _ _ _ (trans _ _ _ _ _ _ _ _ first (wait _ _ _ hv)) (ih h)
        next => cases h
    next => cases h

end Pieces

/-! ## The responses of a burst -/

section Responses

variable {s t u : State} {a b c : Tally} {m n : Nat}

/-- The host receives no response while ticks run. -/
theorem environmentTick_observed (h : environmentTick s = .ok t) : t.observed = s.observed := by
  obtain ⟨_, _, _, _, u, hu, ⟨_, _, -, -, rfl⟩ | rfl⟩ := environmentTick_ok h <;> rw [pollTick_frame hu]

theorem runTicks_observed (h : runTicks n s = .ok t) : t.observed = s.observed :=
  runTicks_rel (fun s t => t.observed = s.observed) (fun _ => rfl) (fun _ _ _ h₁ h₂ => h₂.trans h₁)
    (fun _ _ => environmentTick_observed) n s t h

theorem burstGap_observed (h : burstGap s = .ok t) : t.observed = s.observed := by
  rw [runTicks_observed h, takeTurn_state]

theorem burstWait_observed (h : burstWait s = .ok t) : t.observed = s.observed := by
  rw [runTicks_observed h]
  obtain hw | hw := waitTicks_state s <;> rw [hw]

theorem pressSeen_append (l m : List Rsp) : pressSeen (l ++ m) = (pressSeen l || pressSeen m) := List.any_append

theorem rspPress_drainSteps (s : State) : rspPress (drainSteps s).1 = false := by
  rw [drainSteps_response]
  split <;> rfl

/-- From `s` to `t` the host received two responses for each of `n` pairs, and their sum and or went into the tally. -/
def Tallied (n : Nat) (a : Tally) (s : State) (b : Tally) (t : State) : Prop :=
  ∃ new, t.observed = new ++ s.observed ∧ new.length = 2 * n ∧
    b = { total := a.total + drainedSum new, any := a.any || pressSeen new }

namespace Tallied

/-- Where the host receives no response. -/
theorem of_observed_eq (h : t.observed = s.observed) : Tallied 0 a s a t :=
  ⟨[], h, rfl, by simp [drainedSum, pressSeen]⟩

protected theorem trans (h : Tallied m a s b t) (h' : Tallied n b t c u) : Tallied (m + n) a s c u := by
  obtain ⟨first, observed, length, rfl⟩ := h
  obtain ⟨second, observed', length', rfl⟩ := h'
  refine ⟨second ++ first, by rw [observed', observed, List.append_assoc], ?_, ?_⟩
  · rw [List.length_append, length, length', Nat.mul_add, Nat.add_comm]
  · simp only [drainedSum_append, pressSeen_append, add_assoc, add_comm (drainedSum second), Bool.or_assoc,
      Bool.or_comm (pressSeen second)]

/-- The response to `RDSTEPS` counts in the sum alone, and that to `RDPRESS` in the or alone. -/
protected theorem burstPair (h : burstPair a s = .ok (b, t)) : Tallied 1 a s b t := by
  obtain ⟨u, hu, rfl, rfl⟩ := burstPair_ok h
  refine ⟨[(drainPress u).1, (drainSteps s).1], ?_, rfl, ?_⟩
  · rw [respond_observed, drainPress_state, burstGap_observed hu, respond_observed, drainSteps_state]
    rfl
  · simp [drainedSum, pressSeen, rspSteps_drainPress, rspPress_drainSteps]

protected theorem burstPairs (h : burstPairs n a s = .ok (b, t)) : Tallied n a s b t :=
  burstPairs_tally_rel (refl := fun _ _ => of_observed_eq rfl) (trans := fun _ _ _ _ _ _ _ _ => .trans)
    (pair := fun _ _ _ _ => .burstPair) (wait := fun _ _ _ hw => of_observed_eq (burstWait_observed hw)) h

end Tallied

end Responses

/-- Settles O43: with unbounded widths the burst completes (`execBurst_total`), and its tally is that of its responses
(`Tallied`). -/
theorem burstSumsItsResponses : Obligations.BurstSumsItsResponses := by
  intro s steps time
  obtain ⟨t, ht⟩ := execBurst_total ⟨steps, time⟩
  obtain ⟨a, u, hu, rfl⟩ := execBurst_next ht
  obtain ⟨new, observed, length, rfl⟩ := Tallied.burstPairs hu
  exact ⟨_, new, ht, observed, length, by simp only [zero_add, Bool.false_or]⟩

/-! ## A burst on a block that has nothing to give -/

/-- No drain of the block takes anything out: the drains are closed, or the block is disabled with both cells empty. -/
def State.barren (s : State) : Prop := drainsOpen s = false ∨ (s.mode = .disabled ∧ s.Inv)

namespace State.barren

variable {s t : State} {a b : Tally} {n : Nat}

theorem rspSteps_eq (h : s.barren) : rspSteps (drainSteps s).1 = 0 := by
  rw [drainSteps_response]
  obtain closed | ⟨hm, hs⟩ := h
  · rw [closed]; rfl
  · obtain ⟨empty, -⟩ := hs.disabled_empty hm
    rw [if_pos (hs.drainsOpen_of_disabled hm), empty]; rfl

theorem rspPress_eq (h : s.barren) : rspPress (drainPress s).1 = false := by
  rw [drainPress_response]
  obtain closed | ⟨hm, hs⟩ := h
  · rw [closed]; rfl
  · obtain ⟨-, clear⟩ := hs.disabled_empty hm
    rw [if_pos (hs.drainsOpen_of_disabled hm), clear]; rfl

theorem of_records (ht : agreeButRecords s t) (h : s.barren) : t.barren := by
  obtain closed | ⟨hm, hs⟩ := h
  · rw [ht]; exact .inl closed
  · exact .inr ⟨by rw [ht]; exact hm, hs.of_records ht⟩

protected theorem respond {status : Status} {value : Option RspValue} (h : s.barren) :
    (respond status value s).barren := h.of_records rfl

/-- No tick opens the drains: it keeps the stop flag, and a running block whose drains are closed has its stop pending
(rules R101 and R104). -/
theorem drainsOpen_pollTick {e c d b : Bool} (h : drainsOpen s = false) (ht : pollTick e c d b s = .ok t) :
    drainsOpen t = false := by
  have flag : t.stopFlag = s.stopFlag := by rw [pollTick_frame ht]
  obtain kept | ⟨running, -⟩ := pollTick_mode ht
  · rwa [drainsOpen, kept, flag]
  · have pending : s.stopFlag = true := by simpa [drainsOpen, running] using h
    simp [drainsOpen, flag, pending]

protected theorem pollTick {e c d b : Bool} (h : s.barren) (ht : pollTick e c d b s = .ok t) : t.barren := by
  obtain closed | ⟨hm, hs⟩ := h
  · exact .inl (drainsOpen_pollTick closed ht)
  · rw [pollTick_of_ne_running (by simp [hm])] at ht
    obtain ⟨hfit, rfl⟩ := advanceTime_ok ht
    exact .inr ⟨hm, hs.advance hfit⟩

protected theorem drainSteps (h : s.barren) : (drainSteps s).2.barren := by
  obtain closed | ⟨hm, hs⟩ := h
  · rw [drainSteps_state]; exact .inl closed
  · exact .inr ⟨by rw [drainSteps_state]; exact hm, hs.drainSteps⟩

protected theorem drainPress (h : s.barren) : (drainPress s).2.barren := by
  obtain closed | ⟨hm, hs⟩ := h
  · rw [drainPress_state]; exact .inl closed
  · exact .inr ⟨by rw [drainPress_state]; exact hm, hs.drainPress⟩

protected theorem environmentTick (h : s.barren) (ht : environmentTick s = .ok t) : t.barren := by
  obtain ⟨_, _, _, _, u, hu, hrecords⟩ := environmentTick_ok ht
  refine State.barren.pollTick (s := u) ?_ hu
  obtain ⟨_, _, -, -, rfl⟩ | rfl := hrecords <;> exact h.of_records rfl

protected theorem runTicks (h : s.barren) (ht : runTicks n s = .ok t) : t.barren :=
  runTicks_rel (fun s t => s.barren → t.barren) (fun _ => id) (fun _ _ _ h₁ h₂ h => h₂ (h₁ h))
    (fun _ _ hu h => h.environmentTick hu) n s t ht h

protected theorem burstGap (h : s.barren) (ht : burstGap s = .ok t) : t.barren := by
  refine State.barren.runTicks ?_ ht
  rw [takeTurn_state]
  exact h.of_records rfl

protected theorem burstWait (h : s.barren) (ht : burstWait s = .ok t) : t.barren := by
  refine State.barren.runTicks ?_ ht
  obtain hw | hw := waitTicks_state s <;> rw [hw]
  · exact h
  · exact h.of_records rfl

protected theorem burstPair (h : s.barren) (ht : burstPair a s = .ok (b, t)) : t.barren ∧ b = a := by
  obtain ⟨u, hu, rfl, rfl⟩ := burstPair_ok ht
  have gap : u.barren := h.drainSteps.respond.burstGap hu
  exact ⟨gap.drainPress.respond, by rw [h.rspSteps_eq, gap.rspPress_eq, add_zero, Bool.or_false]⟩

/-- The pairs add nothing to the tally. -/
protected theorem burstPairs (h : s.barren) (ht : burstPairs n a s = .ok (b, t)) : t.barren ∧ b = a :=
  burstPairs_tally_rel (R := fun _ a s b t => s.barren → t.barren ∧ b = a)
    (refl := fun _ _ hs => ⟨hs, rfl⟩)
    (trans := fun _ _ _ _ _ _ _ _ hst htu hs => by
      obtain ⟨ht, rfl⟩ := hst hs
      exact htu ht)
    (pair := fun _ _ _ _ hp hs => hs.burstPair hp)
    (wait := fun _ _ _ hw hs => ⟨hs.burstWait hw, rfl⟩) ht h

end State.barren

/-- Settles O44: the block is barren and stays so, whatever ticks fall in the burst. -/
theorem burstOnDeadBlockIsEmpty : Obligations.BurstOnDeadBlockIsEmpty := by
  intro s t h ht
  have barren : s.barren := h.imp_left fun closed => Bool.eq_false_iff.mpr (mt drainsOpen_iff.mp closed)
  obtain ⟨a, u, hu, rfl⟩ := execBurst_next ht
  obtain ⟨-, rfl⟩ := barren.burstPairs hu
  rfl

/-! ## A burst with no tick in it -/

section Tickless

variable {s : State}

/-- Where no choice is left, no tick falls inside a pair (log entry 9). -/
theorem burstGap_of_noTurns (h : s.turns = []) : burstGap s = .ok s := by
  have noChoice : takeTurn s = (false, s) := by unfold takeTurn; rw [h]
  unfold burstGap
  rw [noChoice]
  rfl

/-- Where the delay is 0, a wait takes no time. -/
theorem burstWait_of_noDelay (h : s.params.interSampleDelay = 0) : burstWait s = .ok s := by
  have noTick : waitTicks s = (0, s) := by simp [waitTicks, h]
  unfold burstWait
  rw [noTick]
  rfl

/-- `s` with both cells drained, before a host that has observed `l`. -/
def State.drained (s : State) (l : List Rsp) : State := { s with steps := 0, pressLatch := false, observed := l }

/-- An admitted pair with no tick in it moves both cells into the tally. -/
theorem burstPair_of_noTurns (a : Tally) (hturns : s.turns = []) (hopen : drainsOpen s = true) :
    burstPair a s =
      .ok ({ total := a.total + s.steps, any := a.any || s.pressLatch },
        s.drained ({ status := .ok, value := some (.press s.pressLatch) } ::
          { status := .ok, value := some (.steps s.steps) } :: s.observed)) := by
  have stepsRead : drainSteps s = ({ status := .ok, value := some (.steps s.steps) }, { s with steps := 0 }) := by
    unfold drainSteps; rw [if_pos hopen]; rfl
  have pressRead (l : List Rsp) : drainPress { s with steps := 0, observed := l } =
      ({ status := .ok, value := some (.press s.pressLatch) }, s.drained l) := by
    unfold drainPress; exact if_pos hopen
  rw [burstPair_of_gap a (burstGap_of_noTurns (by rw [stepsRead]; exact hturns)), stepsRead]
  simp only [respond, pressRead]
  rfl

/-- The first pair empties both cells, and the pairs after it find them empty. -/
theorem burstPairs_of_noTicks (n : Nat) (a : Tally) (hturns : s.turns = []) (hdelay : s.params.interSampleDelay = 0)
    (hopen : drainsOpen s = true) :
    ∃ l, burstPairs (n + 1) a s = .ok ({ total := a.total + s.steps, any := a.any || s.pressLatch }, s.drained l) := by
  induction n generalizing a s with
  | zero => exact ⟨_, by rw [burstPairs_one, burstPair_of_noTurns a hturns hopen]⟩
  | succ n ih =>
    have first := burstPair_of_noTurns a hturns hopen
    rw [burstPairs_of_pair_wait n first (burstWait_of_noDelay (s := s.drained _) hdelay)]
    obtain ⟨l, hl⟩ := ih (s := s.drained _) _ hturns hdelay hopen
    exact ⟨l, by simpa [State.drained] using hl⟩

end Tickless

/-- Settles O45: without a pair the tally stays empty, and without a tick it is what the first pair took out. -/
theorem burstWithoutTicks : Obligations.BurstWithoutTicks := by
  intro s
  refine ⟨fun hn => ?_, fun hn hdelay hturns hopen => ?_⟩
  · rw [exec_burst, execBurst, hn]
    rfl
  · obtain ⟨l, pairs⟩ :=
      burstPairs_of_noTicks (s.params.nSamples - 1) { total := 0, any := false } hturns hdelay
        (drainsOpen_iff.mpr hopen)
    rw [Nat.sub_add_cancel hn, zero_add, Bool.false_or] at pairs
    exact ⟨_, by rw [exec_burst, execBurst, pairs], rfl, rfl⟩

end Sys2Proof.Machine

/-! # Faults, frames and the inert stub (60_exceptions.md rules R194, R195, R199, R202 and R206)

A fault of the machine is the fault of a tick, alone or inside a burst, and each fault of a tick reports the end of one
finite width. `TickFaults` carries this from the tick through the pieces of a burst to the step; a step therefore
answers wherever no width is finite. -/

namespace Sys2Proof.Machine

/-! ## The two faults of a tick -/

section FaultingTicks

variable {s : State} {e c d b : Bool}

theorem stepsFits_some_eq_false {w : Nat} {v : Int} :
    stepsFits (some w) v = false ↔ v < -(2 ^ (w - 1)) ∨ 2 ^ (w - 1) ≤ v := by
  simp only [stepsFits, decide_eq_false_iff_not, not_and_or, not_le, not_lt]

theorem timeFits_some_eq_false {w n : Nat} : timeFits (some w) n = false ↔ 2 ^ w ≤ n := by
  simp only [timeFits, decide_eq_false_iff_not, not_lt]

/-- Time does not advance where the new time does not fit (U7). -/
theorem advanceTime_of_wrap (h : timeFits s.params.timeW (s.now + tickInterval s) = false) :
    advanceTime s = .error .timeWrap := by
  unfold advanceTime
  rw [if_neg (by simp [h])]

/-- Time comes first: a tick whose time wraps faults in every mode (rule R100). -/
theorem pollTick_of_wrap (h : timeFits s.params.timeW (s.now + tickInterval s) = false) :
    pollTick e c d b s = .error .timeWrap := by
  unfold pollTick
  rw [advanceTime_of_wrap h]

/-- The decode of a snapshot faults where its detent does not fit the cell (rule R194). -/
theorem decodeSample_of_overflow {l : Levels} (hp : s.cfg.ppr ≤ ((qdec l.clk l.dt s).accum.natAbs : Int))
    (hf : stepsFits s.params.stepsW (s.steps + trunc (qdec l.clk l.dt s).accum s.cfg.ppr) = false) :
    decodeSample l s = .error .stepsOverflow := by
  unfold decodeSample
  rw [detent_of_overflow (s := qdec l.clk l.dt s) hp hf]

end FaultingTicks

/-- Settles O21: the advance of time is the first sub-step of a tick. -/
theorem timeWrapFaults : Obligations.TimeWrapFaults := by
  intro s e c d b w hw hwrap
  have wraps : timeFits s.params.timeW (s.now + tickInterval s) = false := by
    rw [hw]
    exact timeFits_some_eq_false.mpr hwrap
  rw [exec_poll, pollTick_of_wrap wraps]
  rfl

/-- Settles O20: the tick reaches the decode, and its detent does not fit. -/
theorem stepsOverflowFaults : Obligations.StepsOverflowFaults := by
  intro s e c d b w hm hstop hlim hfit hw a hp hover
  have overflows : stepsFits s.params.stepsW (s.steps + trunc a s.cfg.ppr) = false := by
    rw [hw]
    exact stepsFits_some_eq_false.mpr hover
  rw [exec_poll_decodes hm hstop hlim hfit,
    decodeSample_of_overflow (by rw [qdec_eq]; exact hp) (by rw [qdec_eq]; exact overflows)]
  rfl

/-! ## What a tick leaves alone -/

/-- Settles O23: `pollTick_frame` is this frame, and `POLL` is one tick. -/
theorem pollFrame : Obligations.PollFrame :=
  fun _ _ _ _ _ _ h => pollTick_frame (outcomeOf_next h)

/-! ## Unchanged lines -/

section Unchanged

variable {s : State}

/-- A pair of equal states is a hold of the table (rule R122 and the rest of its diagonal). -/
theorem tt_append_self : ∀ p : QState, tt (p ++ p) = 0 := by decide

/-- The levels last seen select a hold (rule R120). -/
theorem qdec_of_unchanged {c d : Bool} (h : s.prevState = BitVec.ofBool c ++ BitVec.ofBool d) : qdec c d s = s := by
  rw [qdec_eq, ← h, tt_append_self, mul_zero, add_zero]

/-- An accumulator short of one detent gives none (rules R35 and R139). -/
theorem detent_of_accumInRange (h : s.accumInRange) : detent s = .ok s := by
  obtain ⟨low, high⟩ := h
  have short : ¬ s.cfg.ppr ≤ (s.accum.natAbs : Int) := by omega
  unfold detent
  rw [if_neg short]

/-- An inactive button at the level last seen neither tracks nor latches (rules R151 and R153). -/
theorem btn_of_unchanged_inactive (h : s.lastButtonLevel ≠ s.cfg.activeLevel) : btn s.lastButtonLevel s = s := by
  have noEdge : releaseEdge s.lastButtonLevel s = false := by simp [releaseEdge_eq]
  have noLatch : latchNow s.lastButtonLevel s = false := by simp [latchNow_eq, h]
  rw [btn_eq, noEdge, noLatch]
  simp

/-- A snapshot of unchanged lines with the button inactive decodes to nothing (rule R202). -/
theorem decodeSample_of_unchanged {c d : Bool} (hrange : s.accumInRange)
    (hlines : s.prevState = BitVec.ofBool c ++ BitVec.ofBool d) (hbutton : s.lastButtonLevel ≠ s.cfg.activeLevel) :
    decodeSample { clk := c, dt := d, sw := s.lastButtonLevel } s = .ok s := by
  simp only [decodeSample, qdec_of_unchanged hlines, detent_of_accumInRange hrange,
    btn_of_unchanged_inactive hbutton]

end Unchanged

/-- Settles O27: the tick reaches the decode of unchanged lines, and a clean poll leaves an error count of 0. -/
theorem unchangedLinesReportNothing : Obligations.UnchangedLinesReportNothing := by
  rintro s c d b hinv hm hstop herr hlines rfl hbutton hfit
  have counted : countError false { s with now := s.now + s.cfg.pollInterval } =
      { s with now := s.now + s.cfg.pollInterval } := by
    rw [countError, if_neg (by simp), ← herr]
  have decoded : decodeSample { clk := c, dt := d, sw := s.lastButtonLevel }
      { s with now := s.now + s.cfg.pollInterval } = .ok { s with now := s.now + s.cfg.pollInterval } :=
    decodeSample_of_unchanged (hinv.accum_range (.inl hm)) hlines hbutton
  rw [exec_poll_decodes hm hstop (by simp) hfit, counted]
  simp only [Bool.false_or, decoded]
  rfl

/-! ## Where a fault comes from -/

/-- The width whose end a fault reports (rule R194 and U7). -/
def Fault.width (p : Params) : Fault → Option Nat
  | .stepsOverflow => p.stepsW
  | .timeWrap => p.timeW

/-- A tick with these parameters can raise this fault. -/
def TickFaults (p : Params) (f : Fault) : Prop := ∃ e c d b s, s.params = p ∧ pollTick e c d b s = .error f

section FaultSources

variable {s : State} {e c d b : Bool} {f : Fault}

theorem advanceTime_error (h : advanceTime s = .error f) :
    f = .timeWrap ∧ timeFits s.params.timeW (s.now + tickInterval s) = false := by
  unfold advanceTime at h
  split at h
  next => cases h
  next wraps => cases h; exact ⟨rfl, by simpa using wraps⟩

theorem detent_error (h : detent s = .error f) :
    f = .stepsOverflow ∧ stepsFits s.params.stepsW (s.steps + trunc s.accum s.cfg.ppr) = false := by
  cases hfit : stepsFits s.params.stepsW (s.steps + trunc s.accum s.cfg.ppr) with
  | true => rw [detent_of_fits fun _ => hfit] at h; cases h
  | false =>
    by_cases hp : s.cfg.ppr ≤ (s.accum.natAbs : Int)
    · rw [detent_of_overflow hp hfit] at h; cases h; exact ⟨rfl, rfl⟩
    · rw [detent_of_fits fun reached => absurd reached hp] at h; cases h

/-- An iteration faults in its detent and nowhere else. -/
theorem pollIteration_error (h : pollIteration e c d b s = .error f) :
    detent (qdec (sampleLevels e c d b).clk (sampleLevels e c d b).dt (countError e s)) = .error f := by
  unfold pollIteration at h
  split_ifs at h
  unfold decodeSample at h
  split at h
  next => cases h
  next g overflow => cases h; exact overflow

/-- A tick faults where it advances time, or in its iteration. -/
theorem pollTick_error (h : pollTick e c d b s = .error f) :
    advanceTime s = .error f ∨ pollIteration e c d b { s with now := s.now + tickInterval s } = .error f := by
  unfold pollTick at h
  split at h
  next u hu =>
    obtain ⟨-, rfl⟩ := advanceTime_ok hu
    split_ifs at h
    exact .inr h
  next g hg => cases h; exact .inl hg

/-- Each fault of a tick needs its own width to be finite. -/
theorem TickFaults.width_ne_none {p : Params} (h : TickFaults p f) : f.width p ≠ none := by
  obtain ⟨e, c, d, b, s, rfl, hs⟩ := h
  obtain wrap | overflow := pollTick_error hs
  · obtain ⟨rfl, wraps⟩ := advanceTime_error wrap
    intro (unbounded : s.params.timeW = none)
    simp [unbounded] at wraps
  · obtain ⟨rfl, overflows⟩ := detent_error (pollIteration_error overflow)
    intro (unbounded : s.params.stepsW = none)
    simp [qdec_eq, unbounded] at overflows

theorem environmentTick_error (h : environmentTick s = .error f) : TickFaults s.params f := by
  have free (hfree : freeTick s = .error f) : TickFaults s.params f :=
    ⟨_, _, _, _, { s with draws := s.draws + 1 }, rfl, hfree⟩
  unfold environmentTick at h
  split at h
  next w rest _ =>
    split at h
    next => exact ⟨_, _, _, _, { s with inputs := rest }, rfl, h⟩
    next => exact free h
  next => exact free h

theorem runTicks_error {n : Nat} (h : runTicks n s = .error f) : TickFaults s.params f := by
  induction n generalizing s with
  | zero => cases h
  | succ n ih =>
    unfold runTicks at h
    split at h
    next u hu => rw [← environmentTick_params hu]; exact ih h
    next g hg => cases h; exact environmentTick_error hg

theorem burstGap_error (h : burstGap s = .error f) : TickFaults s.params f := by
  rw [← takeTurn_params s]
  exact runTicks_error h

theorem burstWait_error (h : burstWait s = .error f) : TickFaults s.params f := by
  rw [← waitTicks_params s]
  exact runTicks_error h

/-- The two drains of a pair answer always; a fault comes from the tick between them. -/
theorem burstPair_error {a : Tally} (h : burstPair a s = .error f) : TickFaults s.params f := by
  unfold burstPair at h
  simp only at h
  split at h
  next => cases h
  next g hg =>
    cases h
    have tick := burstGap_error hg
    rwa [respond_params, drainSteps_params] at tick

theorem burstPairs_error {n : Nat} {a : Tally} (h : burstPairs n a s = .error f) : TickFaults s.params f := by
  induction n generalizing a s with
  | zero => cases h
  | succ n ih =>
    unfold burstPairs at h
    split at h
    next b t pair =>
      rw [← burstPair_params pair]
      cases n with
      | zero => cases h
      | succ m =>
        simp only at h
        split at h
        next u wait => rw [← burstWait_params wait]; exact ih h
        next g hg => cases h; exact burstWait_error hg
    next g hg => cases h; exact burstPair_error hg

end FaultSources

/-! ## Every step answers -/

/-- An outcome that is a next state, or a fault that some tick with these parameters raises: never a refusal. -/
def Answers (p : Params) (o : Host.Outcome State Fault Refusal) : Prop :=
  (∃ t, o = .next t) ∨ ∃ f, o = .fault f ∧ TickFaults p f

theorem Answers.of_next {p : Params} (t : State) : Answers p (.next t) := .inl ⟨t, rfl⟩

theorem exec_poll_answers (e c d b : Bool) (s : State) : Answers s.params (exec (.poll e c d b) s) := by
  rw [exec_poll]
  cases h : pollTick e c d b s with
  | ok t => exact .of_next t
  | error f => exact .inr ⟨f, rfl, e, c, d, b, s, rfl, h⟩

/-- `START` answers `BUSY`, `OK` or `BAD_CFG` (rule R170). -/
theorem exec_start_answers (e c d b : Bool) (s : State) : Answers s.params (exec (.start e c d b) s) := by
  rw [exec_start]
  unfold execStart
  split
  next => exact .of_next _
  next => split <;> exact .of_next _

theorem exec_burst_answers (s : State) : Answers s.params (exec .burst s) := by
  rw [exec_burst]
  unfold execBurst
  split
  next => exact .of_next _
  next f hf => exact .inr ⟨f, rfl, burstPairs_error hf⟩

/-- Every entry of the stream, and its end, has an answer; only a tick and a burst of ticks can fault. -/
theorem step_answers (s : State) : Answers s.params (step s) := by
  cases hin : s.inputs with
  | nil => rw [step_ended hin]; exact .of_next s
  | cons entry rest =>
    cases entry with
    | configure k => rw [step_configure hin]; exact .of_next _
    | burst => rw [step_burst hin]; exact exec_burst_answers { s with inputs := rest }
    | event w =>
      rw [step_event hin]
      cases hw : decodeE8 w with
      | error r => exact .of_next _
      | ok i =>
        obtain ⟨e, c, d, b, rfl⟩ | ⟨e, c, d, b, rfl⟩ | rfl | rfl | rfl | rfl := decodeE8_ok hw
        · exact exec_poll_answers e c d b { s with inputs := rest }
        · exact exec_start_answers e c d b { s with inputs := rest }
        all_goals exact .of_next _

/-- Settles O50: a step answers or faults, and a fault needs its own width. -/
theorem stepAlwaysAnswers : Obligations.StepAlwaysAnswers := by
  intro s
  obtain ⟨t, ht⟩ | ⟨f, hf, tick⟩ := step_answers s
  · rw [ht]
    exact ⟨fun _ _ => ⟨t, rfl⟩, nofun, nofun, nofun⟩
  · have finite := tick.width_ne_none
    rw [hf]
    cases f with
    | stepsOverflow => exact ⟨fun unbounded _ => absurd unbounded finite, fun _ => finite, nofun, nofun⟩
    | timeWrap => exact ⟨fun _ unbounded => absurd unbounded finite, nofun, fun _ => finite, nofun⟩

end Sys2Proof.Machine

/-! # A step that runs no operation (70_reset_and_hazards.md rules R222 and R233; log entries 4 and 5) -/

namespace Sys2Proof.Machine

/-- Settles O6: `step_ended`, and `step_configure` with the one field that `presentCfg` writes. -/
theorem stepWithoutEvent : Obligations.StepWithoutEvent := by
  refine fun s => ⟨step_ended, fun c rest hin => ?_⟩
  rw [step_configure hin, presentCfg]

end Sys2Proof.Machine
